-- ==== Sys2Proof/Word.lean ====
section
/-! DEFINITION. The plain value types of the ZF-2410: a byte, a row across the nine tracks, a slot
number, and the two directions of tape motion (R1, R17, R150). -/

namespace Sys2Proof

/-- One byte of the host bus, of a slot or of a frame's eight data bits. -/
abbrev Byte := BitVec 8

/-- One row across the nine tracks (R1): bit n is track n, bits 0 to 7 the data byte, bit 8 the row
check bit. -/
abbrev Row := BitVec 9

/-- The number of one of the eight slots of the block pool (R17). -/
abbrev SlotNo := Fin 8

/-- The direction of tape motion (R150). -/
inductive Dir where
  | forward
  | reverse
deriving DecidableEq, Repr

end Sys2Proof
end

