-- ==== Sys2Proof/Syntax.lean ====
section
/-! DEFINITION. The commands of the ZF-2410: one constructor for each row of the table of operations
and events. The operands are what the outside brings with the command: the byte of a bus write, the
offset of a bus access, the two rows of the read head, the bit on SDIN, the levels found at a pin
reset. -/

namespace Sys2Proof

/-- The six status levels of the transport (R150). -/
structure Levels where
  /-- A cartridge is present. -/
  present : Bool
  /-- The drive is ready. -/
  ready : Bool
  /-- Writing is permitted. -/
  wpermit : Bool
  /-- The tape stands at or before the BOM point (R15). -/
  bom : Bool
  /-- The tape stands at or beyond the EW point (R15). -/
  ew : Bool
  /-- The tape stands at or beyond the EOM point (R15). -/
  eom : Bool
deriving DecidableEq, Repr

/-- The three two-byte settings whose low byte is held until the high byte is written (R183). -/
inductive HoldReg where
  | seqctl
  | strlen
  | pace
deriving DecidableEq, Repr

/-- The commands, in the order of the table. -/
inductive Instr where
  -- writes of CMD (R185)
  | start
  | stop
  | abort
  | continueEpisode
  | retry
  | claim
  | queue
  | queueMark
  | cancelFill
  | release
  | requeueHeld
  | discardHeld
  | deliverHeld
  | resultAdvance
  | softReset
  | streamOn
  | streamOff
  /-- A write of CMD with a code that names no command. -/
  | unknownCode (code : Byte)
  -- register accesses
  | listptrWrite (b : Byte)
  | listdataRead
  | listdataWrite (b : Byte)
  /-- The write of SEQCTL's high byte. -/
  | seqctlWrite (b : Byte)
  | lowByteHoldWrite (r : HoldReg) (b : Byte)
  | timptrWrite (b : Byte)
  | timdataRead
  | timdataWrite (b : Byte)
  | dataWrite (b : Byte)
  | dataRead
  /-- The write of STRLEN's high byte. -/
  | strlenWrite (b : Byte)
  /-- The write of the pacing divisor's high byte. -/
  | paceDivisorWrite (b : Byte)
  | paceFractionWrite (b : Byte)
  | strctlWrite (b : Byte)
  | tagWrite (b : Byte)
  | slotptrWrite (b : Byte)
  | slotrecRead
  | resptrWrite (b : Byte)
  | resdataRead
  | capptrWrite (b : Byte)
  | capdataRead
  /-- The read of POS byte 0. -/
  | posRead
  /-- The read of FILLCNT's low byte. -/
  | fillcntRead
  /-- The read of DRAINCNT's low byte. -/
  | draincntRead
  | seqstatRead
  | xpstatRead
  /-- A write of an EVENTS byte: the high one where `hi` is set. -/
  | eventsClear (hi : Bool) (b : Byte)
  /-- A write of an EVMASK byte: the high one where `hi` is set. -/
  | evmaskWrite (hi : Bool) (b : Byte)
  | hoststatClear (b : Byte)
  /-- A write to an offset that has no row of its own. -/
  | otherRegisterWrite (off : BitVec 5) (b : Byte)
  -- the reset pin and the drive's status levels
  /-- RESETN, with the levels sampled after the reset (R167). -/
  | pinReset (lv : Levels)
  | presentFall
  | presentRise
  | readyFall
  | readyRise
  | wpermitFall
  | wpermitRise
  | bomRise
  | bomFall
  | ewRise
  | ewFall
  | eomRise
  | eomFall
  -- the stream port
  /-- The sixteenth bit of a word is sampled (R171). -/
  | streamWordComplete (sdin : Bool)
  /-- A word start taken over a partial word in SLAVE mode (R172). -/
  | framingError (sdin : Bool)
  | pacingIntervalStart
  -- the heads and the timers
  | readHeadRow (strict lenient : Row)
  | gapTimerExpiry
  | checkGroupWritten
  | postambleWritten
  | verifyWatchOpen
  | verifyDeadline
  | eraseTimerExpiry
  | startRampExpiry
  | stopRampExpiry
  | lingerExpiry
  | rewindLimitExpiry
  | blankWindowExpiry
  -- the block's own follow-on steps
  | readClaimServed
  | streamClaimRetry
  | waitingHeadTaken
  | pendingResultPosted
  | abortingToIdle
  | heldRequestAnswered
  | deferredRequestTaken
  | keptIdleReportTaken
  | ejectPhaseBegin
  | gapBeginOnRunning
  | erasingBeginOnRunning
  | blockOpenOnClassify
  /-- A rising edge of SCLK with the levels of SFRM and SDIN. In MASTER mode the port drives SFRM
  itself and the operand `sfrm` is not looked at (R173). -/
  | sclkRisingEdge (sfrm sdin : Bool)
  /-- A read of an offset that has no read row of its own. -/
  | otherRegisterRead (off : BitVec 5)
deriving DecidableEq, Repr

end Sys2Proof
end

