-- ==== Sys2Proof/WellFormed.lean ====
section
/-! DEFINITION. Which commands are rows of the table with operands in the row's own range: an unknown
code names no command (R185), and the two rows for "an offset that has no row of its own" carry such
an offset (R182, R184, the register map). -/

namespace Sys2Proof

/-- The codes that name a command (the Codes table of the layout section). -/
def commandCodes : List Byte :=
  [0x01, 0x02, 0x03, 0x04, 0x05, 0x10, 0x11, 0x12, 0x13, 0x14, 0x15, 0x16, 0x17, 0x20, 0x21, 0x30,
    0x31]

/-- The offsets whose reads have no row of their own (the register map): CMDSTAT, CMDARG, SEQCTL,
LISTEND, LISTPTR, TIMPTR, the high bytes of FILLCNT and DRAINCNT, RESCNT, POS bytes 1 to 4, EVENTS,
EVMASK, HOSTSTAT, STRCTL and TAG. -/
def otherReadOffsets : List (BitVec 5) :=
  [0x00, 0x01, 0x02, 0x03, 0x05, 0x06, 0x08, 0x0C, 0x0E, 0x0F, 0x14, 0x15, 0x16, 0x17, 0x18, 0x19,
    0x1A, 0x1B, 0x1C, 0x1E, 0x1F]

/-- The offsets whose writes have no row of their own (the register map): CMDARG, and the offsets
with no register for writing. -/
def otherWriteOffsets : List (BitVec 5) :=
  [0x01, 0x04, 0x05, 0x13, 0x14, 0x15, 0x16, 0x17, 0x1D]

/-- A command whose operands lie in its row's range. -/
def Instr.wellFormed : Instr → Bool
  | .unknownCode c => !commandCodes.contains c
  | .otherRegisterWrite off _ => otherWriteOffsets.contains off
  | .otherRegisterRead off => otherReadOffsets.contains off
  | _ => true

end Sys2Proof
end

