-- ==== Sys2Proof/Decode.lean ====
section
/-! DEFINITION. The words of the table. The table of operations and events gives none of its rows any
bits ("fields" is empty in every row), so no word spells a command. -/

namespace Sys2Proof

/-- The command that a word spells by the table's bits. The table gives no row bits, so there is
none. -/
def decodeTableWord (_nbits _w : Nat) : Option Instr := none

end Sys2Proof
end

