-- ==== Sys2Proof/Config.lean ====
section
/-! DEFINITION. The constants the manual fixes for the part. The manual leaves no value to the
implementation, so this file holds no free value. -/

namespace Sys2Proof.Config

/-- The bytes of one slot (R17). -/
def slotBytes : Nat := 1024

/-- The result entries the result queue holds at most (R189). -/
def resultRoom : Nat := 16

/-- The file map's entries at most (R143). -/
def mapRoom : Nat := 16

/-- The frames of a pattern: the preamble's, and the postamble's (R3). -/
def patternFrames : Nat := 6

/-- The rows after the pattern that confirm a burst (R14, R117). -/
def confirmRows : Nat := 7

/-- The rows the row window keeps back (R117, R121). -/
def windowRows : Nat := 9

/-- The row after the pattern that marks a burst as longer than any block (R121). -/
def overlengthRow : Nat := 1038

/-- The greatest number of a file, and of a block within a file (R135). -/
def positionMax : Nat := 65535

/-- The entry record's and the episode's counts stop here (R47, R76). -/
def countMax : Nat := 255

end Sys2Proof.Config
end

