-- ==== Sys2Proof/Machine/State.lean ====
section
/-! DEFINITION. The state of the ZF-2410 as plain data: every record the manual gives a block of the
part, the queue of waiting commands, and the machine right after a pin reset. -/

namespace Sys2Proof.Machine

/-- An addressed store of bytes: the listed (address, byte) pairs, addresses strictly rising, none
equal to what an unlisted address reads as, which is 00h (R44, R45: all 00h after a pin reset). -/
abbrev Memory := List Host.Cell

/-! ## The block pool -/

/-- The state of a slot (R18). -/
inductive SlotState where
  | free | filling | queued | active | held | ready
deriving DecidableEq, Repr

/-- Where a slot's block comes from (R17). -/
inductive Source where
  | host | stream | medium
deriving DecidableEq, Repr

/-- The kind of a block (R5, R17). -/
inductive BlockKind where
  | data | mark
deriving DecidableEq, Repr

/-- The class of a read-back (R105). -/
inductive WriteClass where
  | clean | marginal | failed
deriving DecidableEq, Repr

/-- The class of a block read (R123). -/
inductive ReadClass where
  | clean | marginal | damaged
deriving DecidableEq, Repr

/-- What the tag test found of a block (R130). -/
inductive TagFinding where
  | untested | duplicate | inSequence | seqBreak
deriving DecidableEq, Repr

/-- The read status of a MEDIUM slot (R17), with the finding that R130 keeps with the block. -/
structure ReadStatus where
  fallback : Nat
  errors : Nat
  lrcFail : Bool
  crcFail : Bool
  lengthMismatch : Bool
  overlength : Bool
  headerBad : Bool
  sequenceBreak : Bool
  duplicate : Bool
  supersedes : Bool
  hdrStream : Bool
  hdrDiscontinuity : Bool
  hdrRewritten : Bool
  cls : Option ReadClass
  finding : TagFinding
deriving DecidableEq, Repr

/-- A read status with nothing found (R21). -/
def ReadStatus.clear : ReadStatus :=
  { fallback := 0, errors := 0, lrcFail := false, crcFail := false, lengthMismatch := false,
    overlength := false, headerBad := false, sequenceBreak := false, duplicate := false,
    supersedes := false, hdrStream := false, hdrDiscontinuity := false, hdrRewritten := false,
    cls := none, finding := .untested }

/-- A slot record (R17). An absent field is `none`; a flag, a count or a length that the slot's state
and source do not give it is clear, or 0. -/
structure SlotRecord where
  state : SlotState
  source : Option Source
  kind : Option BlockKind
  tag : Option Byte
  length : Nat
  discontinuity : Bool
  rewritten : Bool
  wclass : Option WriteClass
  read : ReadStatus
deriving DecidableEq, Repr

/-- The record of a FREE slot: every field but the state absent (R17, R44). -/
def SlotRecord.free : SlotRecord :=
  { state := .free, source := none, kind := none, tag := none, length := 0,
    discontinuity := false, rewritten := false, wclass := none, read := .clear }

/-- The block pool. The free set, the held set, the two fill slots, the ACTIVE slot, the free count
and the fill cursor are read off the slot records; the stream reserve stands in STRCTL (R169). -/
structure Pool where
  slots : Vector SlotRecord 8
  /-- The slots' bytes: byte k of slot n at address 1024 n + k. -/
  data : Memory
  /-- The write queue, head first (R24). -/
  writeQ : List SlotNo
  /-- The read queue, head first (R30). -/
  readQ : List SlotNo
  /-- The sequence tag counter TAG (R25). -/
  tag : Byte
  /-- The drain cursor (R39). -/
  drain : Nat
deriving DecidableEq, Repr

/-- The pool after a pin reset (R44). -/
def Pool.reset : Pool :=
  { slots := Vector.replicate 8 SlotRecord.free, data := [], writeQ := [], readQ := [], tag := 0,
    drain := 0 }

/-! ## The sequencer -/

/-- The outcomes of a list entry (R61). -/
inductive EntryOutcome where
  | done | stopped | fileMarkMet | bomMet | blankMet | ewMet | eomMet | writeProtected
  | positionUnknown | notReady | transportFault | aborted
deriving DecidableEq, Repr

/-- The operations of the two lists (R47, R56). -/
inductive Op where
  | write | mark | read | spaceFwd | spaceRev | seekFwd | seekRev | erase | rewind | unload
  | retry | skip | freeze
deriving DecidableEq, Repr

/-- The settings of SEQCTL (R46). -/
structure SeqCtl where
  mainLength : Nat
  recLength : Nat
  cycle : Bool
  freezeOnFailure : Bool
deriving DecidableEq, Repr

/-- The sequencer states (R58). -/
inductive SeqState where
  | idle | running | stopping | recovery | frozen | postWait | aborting
deriving DecidableEq, Repr

/-- The list end causes (R58, LISTEND). -/
inductive EndCause where
  | none | completed | stopped | aborted | terminal | softReset
deriving DecidableEq, Repr

/-- The entry record of the running entry (R47). -/
structure EntryRecord where
  unitsDone : Nat
  skipped : Nat
  retries : Nat
  dropped : Nat
  marginalSeen : Bool
  ewPassed : Bool
  recoveredSeen : Bool
deriving DecidableEq, Repr

/-- The entry record when an entry begins (R47). -/
def EntryRecord.clear : EntryRecord :=
  { unitsDone := 0, skipped := 0, retries := 0, dropped := 0, marginalSeen := false,
    ewPassed := false, recoveredSeen := false }

/-- The piece of work the sequencer has in progress: a unit of the current entry, a re-attempt, or a
motion of the recovery list (R48 to R54, R81 to R86). A WRITE unit waiting on an empty write queue is
`waitHead`, a READ unit waiting on its read claim `waitSlot` (R60). -/
inductive Work where
  | none
  | waitHead
  | writeSlot (n : SlotNo)
  | writeMark
  | waitSlot
  | read (n : SlotNo)
  | space (d : Dir)
  | seek (d : Dir)
  | erase
  | rewind
  | unload
deriving DecidableEq, Repr

/-- The kinds of unit: the failed unit of an episode (R75), the unit of a capture record (R106). -/
inductive UnitKind where
  | write | mark | read
deriving DecidableEq, Repr

/-- The class of an attempt in an episode (R76). -/
inductive AttemptClass where
  | clean | marginal | failed | damaged
deriving DecidableEq, Repr

/-- The episode record (R76). -/
structure Episode where
  kind : UnitKind
  slot : Option SlotNo
  tag : Option Byte
  budget : Nat
  attempts : Nat
  /-- The current recovery entry, or none. -/
  cur : Option (Fin 4)
  last : AttemptClass
deriving DecidableEq, Repr

/-- A result entry (R66). -/
structure Result where
  index : Fin 8
  op : Byte
  outcome : EntryOutcome
  record : EntryRecord
  cycle : Byte
  /-- The position record's file, absent while the zone is UNKNOWN. -/
  file : Option Nat
  /-- The position record's block, absent when it is not known. -/
  block : Option Nat
deriving DecidableEq, Repr

/-- The sequencer (chapter 3). -/
structure Sequencer where
  /-- List memory (R45): addresses 0 to 47. -/
  listMem : Memory
  listptr : Fin 48
  ctl : SeqCtl
  state : SeqState
  stopInd : Bool
  /-- The index of the current main entry. -/
  cur : Fin 8
  record : EntryRecord
  work : Work
  /-- What the recovery motion in progress has counted so far (R81, R82). -/
  recCount : Nat
  episode : Option Episode
  pendingResult : Option Result
  cycle : Byte
  endCause : EndCause
deriving DecidableEq, Repr

/-- SEQCTL after a pin reset (R46). -/
def SeqCtl.reset : SeqCtl :=
  { mainLength := 1, recLength := 0, cycle := false, freezeOnFailure := false }

/-- The sequencer after a pin reset (R74). -/
def Sequencer.reset : Sequencer :=
  { listMem := [], listptr := 0, ctl := .reset, state := .idle, stopInd := false, cur := 0,
    record := .clear, work := .none, recCount := 0, episode := none, pendingResult := none, cycle := 0,
    endCause := .none }

/-! ## The write channel -/

/-- The phases of the write channel (R96). -/
inductive WPhase where
  | idle | gap | block | after | erasing
deriving DecidableEq, Repr

/-- What a write unit writes (R96): a slot's block or mark, or the mark of a MARK unit. -/
inductive WTarget where
  | slot (n : SlotNo)
  | markUnit
deriving DecidableEq, Repr

/-- A write unit as the channel holds it (R96). -/
structure WUnit where
  target : WTarget
  kind : BlockKind
  /-- The tag: absent for a MARK unit that has not yet taken one (R100). -/
  tag : Option Byte
  reattempt : Bool
  /-- The unit's entry has VERIFY. -/
  verify : Bool
  framePeriod : Byte
deriving DecidableEq, Repr

/-- Work that waits at the channel: for RUNNING forward, or for the end of a postamble (R98, R111). -/
inductive WHeld where
  | write (u : WUnit)
  | erase
deriving DecidableEq, Repr

/-- The gap timer (R96, R99). -/
inductive GapTimer where
  | stopped
  | running (duration : Byte)
  /-- Run out, its block not yet opened. -/
  | ranOut
deriving DecidableEq, Repr

/-- The states of the verify watch (R103), `unopened` before the watch opens. -/
inductive Watch where
  | unopened | waiting | sensing | ended
deriving DecidableEq, Repr

/-- The verify record (R103). -/
structure Verify where
  /-- The block's frames in the order of writing, each with its row check bit. -/
  frames : List Row
  /-- The number of frames written so far, as the check group's and the postamble's ends show it. -/
  written : Nat
  watch : Watch
  /-- The rows compared so far. -/
  compared : Nat
  /-- The last row compared was silent. -/
  lastSilent : Bool
  /-- The rows of the silent run in progress, 0 unless it began after the postamble was written. -/
  silentRun : Nat
  /-- READ_SILENCE as the verify burst began (R152). -/
  silence : Byte
  weak : Bool
  bad : Bool
  captureTaken : Bool
deriving DecidableEq, Repr

/-- The write channel (R96). -/
structure WriteChannel where
  phase : WPhase
  unit : Option WUnit
  held : Option WHeld
  /-- In BLOCK, the check group has been written and the postamble is being written. -/
  checkWritten : Bool
  /-- The level driven on WGATE. -/
  wgate : Bool
  /-- The level driven on EGATE. -/
  egate : Bool
  /-- The run indication. -/
  run : Bool
  gapTimer : GapTimer
  eraseTimer : Option Byte
  /-- The delay of VERIFY_LAG to the opening of the watch. -/
  watchTimer : Option Byte
  /-- The delay to the verify deadline: VERIFY_LAG, and READ_SILENCE frame periods. -/
  deadline : Option (Byte × Byte)
  verify : Option Verify
deriving DecidableEq, Repr

/-- The write channel after a reset of either kind (R96). -/
def WriteChannel.reset : WriteChannel :=
  { phase := .idle, unit := none, held := none, checkWritten := false, wgate := false,
    egate := false, run := false, gapTimer := .stopped, eraseTimer := none, watchTimer := none,
    deadline := none, verify := none }

/-! ## The fault capture record -/

/-- The block class of a capture record (R106, R132). -/
inductive CaptureClass where
  | marginal | failed | damaged
deriving DecidableEq, Repr

/-- The fault capture record once it has been filled (R106, R132). -/
structure Capture where
  kind : UnitKind
  slot : Option SlotNo
  index : Nat
  expected : Option Row
  strict : Row
  lenient : Row
  cls : Option CaptureClass
deriving DecidableEq, Repr

/-! ## The read channel -/

/-- The burst phases (R117). -/
inductive BurstPhase where
  | silent | pattern | body | passing
deriving DecidableEq, Repr

/-- What a frame selection found (R120). -/
inductive FrameFinding where
  | sound | fallback | error
deriving DecidableEq, Repr

/-- A row of the row window, with its selected frame (R117, R120). -/
structure WinRow where
  strict : Row
  lenient : Row
  frame : Row
  finding : FrameFinding
deriving DecidableEq, Repr

/-- The assembly record (R117), with the rows that a capture record made at the classification shows
(R132). -/
structure Assembly where
  /-- The header bytes committed so far. -/
  header : List Byte
  /-- A header frame was an error (R6). -/
  headerError : Bool
  fallback : Nat
  errors : Nat
  lrc : Byte
  crc : BitVec 16
  /-- The body frames committed. -/
  committed : Nat
  overlength : Bool
  captureTaken : Bool
  /-- The strict and lenient rows at frame index 6. -/
  firstRow : Row × Row
  /-- The strict and lenient rows at frame index 1,037 of an OVERLENGTH block. -/
  overRow : Row × Row
deriving DecidableEq, Repr

/-- The assembly record when a burst begins: the LRC at 00h, the CRC register at FFFFh (R7, R8). -/
def Assembly.clear : Assembly :=
  { header := [], headerError := false, fallback := 0, errors := 0, lrc := 0, crc := 0xFFFF,
    committed := 0, overlength := false, captureTaken := false, firstRow := (0, 0),
    overRow := (0, 0) }

/-- The read channel (R117). -/
structure ReadChannel where
  phase : BurstPhase
  cand : Option BlockKind
  /-- The lenient rows taken of the burst's first six. -/
  patRows : List Row
  /-- Rows after the pattern, 0 to 1,038. -/
  rowsAfter : Nat
  /-- The silent rows of a run that has not yet ended the burst: strict and lenient (R12). -/
  silentRows : List (Row × Row)
  /-- READ_SILENCE as the burst began (R152). -/
  silence : Byte
  window : List WinRow
  asm : Assembly
  /-- The burst began with a READ unit or a read re-attempt holding its slot (R125, R134). -/
  eligible : Bool
  target : Option SlotNo
  straddle : Option (BlockKind × Dir)
  /-- The forward-run tag memory: EMPTY, or a tag. -/
  tagMem : Option Byte
  framePeriod : Byte
deriving DecidableEq, Repr

/-- The read channel after a reset, with the frame period in use (R117). -/
def ReadChannel.reset (framePeriod : Byte) : ReadChannel :=
  { phase := .silent, cand := none, patRows := [], rowsAfter := 0, silentRows := [], silence := 0,
    window := [], asm := .clear, eligible := false, target := none, straddle := none, tagMem := none,
    framePeriod := framePeriod }

/-! ## The position tracker -/

/-- The zones (R15, R135). -/
inductive Zone where
  | unknown | atBom | inData | pastEw | atEom
deriving DecidableEq, Repr

/-- The position record (R135) and the file map (R143), entries (file, block count). -/
structure Position where
  zone : Zone
  file : Option Nat
  block : Option Nat
  map : List (Nat × Nat)
deriving DecidableEq, Repr

/-- The position tracker after a pin reset (R146). -/
def Position.reset : Position :=
  { zone := .unknown, file := none, block := none, map := [] }

/-! ## The transport controller -/

/-- The motion states (R149). -/
inductive Motion where
  | noCartridge | notReady | fault | stopped | starting | running | stopping | rewinding | unloading
deriving DecidableEq, Repr

/-- A request that can be held (R150). -/
inductive HeldRequest where
  | dir (d : Dir)
  | rewind
  | unload
deriving DecidableEq, Repr

/-- A request deferred while the write channel is in BLOCK (R157). -/
inductive Deferred where
  | stop | idle | reverse | rewind | unload
deriving DecidableEq, Repr

/-- The timing table (R152), one byte an entry. -/
structure Timing where
  startRamp : Byte
  stopRamp : Byte
  writeGap : Byte
  verifyLag : Byte
  readSilence : Byte
  blankWindow : Byte
  eraseLength : Byte
  rewindLimit : Byte
  linger : Byte
  frameDiv : Byte
deriving DecidableEq, Repr

/-- The defaults of the timing table (R152). -/
def Timing.reset : Timing :=
  { startRamp := 80, stopRamp := 60, writeGap := 120, verifyLag := 40, readSilence := 4,
    blankWindow := 200, eraseLength := 90, rewindLimit := 120, linger := 30, frameDiv := 50 }

/-- The transport controller (R150). A running timer holds the duration it took when it started
(R152), in the unit of its entry. -/
structure Transport where
  motion : Motion
  dir : Dir
  /-- In STOPPING, the level FAST kept on entry (R149). -/
  fast : Bool
  held : Option HeldRequest
  /-- The deferred requests, oldest first (R157). -/
  deferred : List Deferred
  /-- The kept idle report (R154). -/
  keptIdle : Bool
  /-- The unload indication. -/
  unloadInd : Bool
  rampTimer : Option Byte
  /-- The linger timer. The linger indication is set while it runs. -/
  lingerTimer : Option Byte
  rewindTimer : Option Byte
  blankTimer : Option Byte
  levels : Levels
  timing : Timing
  timptr : Fin 10
deriving DecidableEq, Repr

/-- The motion state derived from the levels found at a pin reset (R167). -/
def Motion.ofLevels (lv : Levels) : Motion :=
  if !lv.present then .noCartridge else if !lv.ready then .notReady else .stopped

/-- The transport after a pin reset that finds the given levels (R167). -/
def Transport.reset (lv : Levels) : Transport :=
  { motion := .ofLevels lv, dir := .forward, fast := false, held := none, deferred := [],
    keptIdle := false, unloadInd := false, rampTimer := none, lingerTimer := none,
    rewindTimer := none, blankTimer := none, levels := lv, timing := .reset, timptr := 0 }

/-! ## The stream port -/

/-- The port states (R169). -/
inductive PortState where
  | off | filling | starved
deriving DecidableEq, Repr

/-- The stream port (R169). The current fill slot is the pool's stream fill slot. -/
structure StreamPort where
  state : PortState
  /-- MASTER mode. -/
  master : Bool
  /-- The stream reserve, 0 to 3. -/
  reserve : Nat
  strlen : Nat
  /-- The pacing divisor D. -/
  divisor : Nat
  /-- The pacing fraction F. -/
  fraction : Nat
  /-- The pacing accumulator. -/
  acc : Nat
  /-- The partial word: its bits, the first taken first. -/
  bits : List Bool
  discontinuity : Bool
  lossNoted : Bool
  /-- In MASTER mode, the SCLK rising edges of the word interval in progress so far (R173). -/
  edges : Nat
  /-- In MASTER mode, the word interval in progress is a long one (R174). -/
  longInterval : Bool
deriving DecidableEq, Repr

/-- The stream port after a pin reset (R169). -/
def StreamPort.reset : StreamPort :=
  { state := .off, master := false, reserve := 1, strlen := 512, divisor := 250, fraction := 0,
    acc := 0, bits := [], discontinuity := false, lossNoted := false, edges := 0,
    longInterval := false }

/-! ## The host port -/

/-- The status codes of CMDSTAT (the Codes tables). -/
inductive Answer where
  | none | accepted | busy | idleState | badList | noSlot | fillOpen | emptyFill | readEmpty
  | notHeld | queueBusy | resultEmpty | portBusy | badLength | unknownCode
deriving DecidableEq, Repr

/-- A read latch (R183): what it holds, and whether a read of the low byte has loaded it since the last
reset. Until then a higher byte is read from its register. -/
structure Latch (α : Type) where
  value : α
  loaded : Bool
deriving DecidableEq, Repr

/-- A latch loaded with a value (R183). -/
def Latch.load {α : Type} (v : α) : Latch α := { value := v, loaded := true }

/-- A latch after a pin reset, at zero (R194). -/
def Latch.reset {α : Type} (zero : α) : Latch α := { value := zero, loaded := false }

/-- A latch after a soft reset (R183). The manual gives it no value then. DEDUCED (log entry 18): it is
kept, and no read shows it before the next load. -/
def Latch.forget {α : Type} (l : Latch α) : Latch α := { l with loaded := false }

/-- What a higher byte is read from: the latch once it is loaded, and the current value until then
(R183). -/
def Latch.shown {α : Type} (l : Latch α) (current : α) : α := if l.loaded then l.value else current

/-- The host port (chapter 10). -/
structure HostPort where
  cmdstat : Answer
  /-- The index of CMDSTAT, used with BAD_LIST. -/
  cmdIndex : BitVec 4
  cmdarg : Byte
  /-- HOSTSTAT: DROPPED_WRITE, EMPTY_READ, LIST_LOCKED, CLAMPED (R187). -/
  hoststat : BitVec 4
  /-- EVENTS (R191): the low byte's flags, then CARTRIDGE_CHANGE. -/
  events : BitVec 9
  evmask : BitVec 9
  /-- The result queue, oldest first (R189). -/
  results : List Result
  /-- SLOTPTR's record selector and byte index (R188). -/
  slotSel : Fin 9
  slotIx : Fin 16
  resptr : Fin 12
  capptr : Fin 7
  /-- The sequence index and the latch of SEQSTAT, and of XPSTAT (R184). -/
  seqIx : Fin 5
  seqLatch : List Byte
  xpIx : Fin 3
  xpLatch : List Byte
  /-- The latches of R183: the high bytes of FILLCNT and DRAINCNT. -/
  fillLatch : Latch Byte
  drainLatch : Latch Byte
  /-- POS bytes 1 to 4. -/
  posLatch : Latch (List Byte)
  /-- The high bytes of the two-byte fields of slot record n: length at 3n, fallback count at 3n+1,
  error count at 3n+2. -/
  slotLatch : Vector (Latch Byte) 24
  /-- The high bytes of the file and of the block of the result window. -/
  resFileLatch : Latch Byte
  resBlockLatch : Latch Byte
  /-- Capture bytes 1 to 6. -/
  capLatch : Latch (List Byte)
  /-- The write holding registers (R183). -/
  holdSeqctl : Byte
  holdStrlen : Byte
  holdPace : Byte
  /-- D0–D7 as the last read access drove them (R182). -/
  busOut : Byte
deriving DecidableEq, Repr

/-- The host port after a pin reset (R194). The manual gives D0–D7 no value while nothing has been
read. DESIGN CHOICE (log entry 2): 00h. -/
def HostPort.reset : HostPort :=
  { cmdstat := .none, cmdIndex := 0, cmdarg := 0, hoststat := 0, events := 0, evmask := 0,
    results := [], slotSel := 0, slotIx := 0, resptr := 0, capptr := 0, seqIx := 0,
    seqLatch := [0, 0, 0, 0, 0], xpIx := 0, xpLatch := [0, 0, 0], fillLatch := .reset 0,
    drainLatch := .reset 0, posLatch := .reset [0, 0, 0, 0],
    slotLatch := Vector.replicate 24 (.reset 0), resFileLatch := .reset 0, resBlockLatch := .reset 0,
    capLatch := .reset [0, 0, 0, 0, 0, 0], holdSeqctl := 0, holdStrlen := 0, holdPace := 0,
    busOut := 0 }

/-! ## The whole -/

/-- The state of the ZF-2410. -/
structure State where
  /-- The commands that wait, first in, first out. -/
  pending : List Instr
  host : HostPort
  pool : Pool
  seq : Sequencer
  wch : WriteChannel
  rch : ReadChannel
  /-- The fault capture record, `none` until it is first filled (R188). -/
  capture : Option Capture
  pos : Position
  xp : Transport
  stream : StreamPort
deriving DecidableEq, Repr

/-- No command of this part stops the machine, so there is no fault. -/
inductive Fault where
deriving DecidableEq, Repr

/-- The refusals of the model. -/
inductive Refusal where
  /-- Raised by `exec` for a command that has no meaning yet. Safe: the run stops. -/
  | notModelled (mnemonic : String)
deriving DecidableEq, Repr

/-- The levels at the drive inputs at reset. The manual takes them as it finds them (R167) and gives
them no value. DESIGN CHOICE (log entry 1): every level absent. -/
def levelsAtReset : Levels :=
  { present := false, ready := false, wpermit := false, bom := false, ew := false, eom := false }

/-- The machine right after power-up: every block as a pin reset leaves it. -/
def State.reset : State :=
  { pending := [], host := .reset, pool := .reset, seq := .reset, wch := .reset,
    rch := .reset 50, capture := none, pos := .reset, xp := .reset levelsAtReset, stream := .reset }

end Sys2Proof.Machine
end

