-- ==== Sys2Proof/Machine/Ops.lean ====
section
/-! DEFINITION. The named operations over the addressed stores, and the recorded medium: row checks,
patterns, headers, the two checks and the frames of a block (R1 to R8). -/

namespace Sys2Proof.Machine

/-! ## One block's record replaced -/

/-- Replace the host port's record. -/
def State.setHost (h : HostPort) (s : State) : State := { s with host := h }

/-- Replace the block pool. -/
def State.setPool (p : Pool) (s : State) : State := { s with pool := p }

/-- Replace the sequencer's record. -/
def State.setSeq (q : Sequencer) (s : State) : State := { s with seq := q }

/-- Replace the write channel's record. -/
def State.setWch (w : WriteChannel) (s : State) : State := { s with wch := w }

/-- Replace the read channel's record. -/
def State.setRch (r : ReadChannel) (s : State) : State := { s with rch := r }

/-- Replace the fault capture record. -/
def State.setCapture (c : Option Capture) (s : State) : State := { s with capture := c }

/-- Replace the position tracker's record. -/
def State.setPos (p : Position) (s : State) : State := { s with pos := p }

/-- Replace the transport controller's record. -/
def State.setXp (x : Transport) (s : State) : State := { s with xp := x }

/-- Replace the stream port's record. -/
def State.setStream (p : StreamPort) (s : State) : State := { s with stream := p }

/-! ## Addressed stores -/

/-- What an address reads as: the listed byte, or 00h where none is listed (R44, R45). -/
def Memory.read : Memory → Nat → Byte
  | [], _ => 0
  | (a, b) :: m, k => if k = a then b else Memory.read m k

/-- Store a byte, keeping the canonical form. -/
def Memory.write : Memory → Nat → Byte → Memory
  | [], k, v => if v = 0 then [] else [(k, v)]
  | (a, b) :: m, k, v =>
    if k < a then (if v = 0 then (a, b) :: m else (k, v) :: (a, b) :: m)
    else if k = a then (if v = 0 then m else (k, v) :: m)
    else (a, b) :: Memory.write m k v

/-- The canonical form from an address on: addresses strictly rising, no byte 00h. -/
def Memory.wfFrom : Nat → Memory → Bool
  | _, [] => true
  | lo, (a, b) :: m => decide (lo ≤ a) && b != 0 && Memory.wfFrom (a + 1) m

/-- The store is in its canonical form. -/
def Memory.wf (m : Memory) : Bool := Memory.wfFrom 0 m

/-! ## Small arithmetic -/

/-- One more, stopping at 255 (R47, R76). -/
def bump (n : Nat) : Nat := if n < Config.countMax then n + 1 else n

/-- The byte of a truth value in bit `k`. -/
def bitAt (k : Nat) (b : Bool) : Byte := if b then BitVec.ofNat 8 (2 ^ k) else 0

/-- The low byte of a number. -/
def loByte (n : Nat) : Byte := BitVec.ofNat 8 n

/-- The high byte of a two-byte number. -/
def hiByte (n : Nat) : Byte := BitVec.ofNat 8 (n / 256)

/-- The two-byte number with the given high and low byte. -/
def word16 (hi lo : Byte) : Nat := hi.toNat * 256 + lo.toNat

/-! ## Rows (R1) -/

/-- The number of ones of a row is odd. -/
def oddOnes {w : Nat} (r : BitVec w) : Bool :=
  (List.range w).foldl (fun p i => p ^^ r.getLsbD i) false

/-- The row of a byte: its eight bits, and the row check bit that makes the number of ones odd (R1). -/
def rowOf (b : Byte) : Row := BitVec.cons (!oddOnes b) b

/-- A row passes the row check when its nine bits hold an odd number of ones (R1). -/
def rowPasses (r : Row) : Bool := oddOnes r

/-- The eight data bits of a row. -/
def rowByte (r : Row) : Byte := r.setWidth 8

/-- A row of nine zeros (R1, R12). -/
def silentRow : Row := 0

/-! ## Patterns (R4, R13) -/

/-- The data pattern. -/
def dataPattern : List Byte := [0xAA, 0xAA, 0xAA, 0xAA, 0x55, 0xE7]

/-- The mark pattern. -/
def markPattern : List Byte := [0x0F, 0xF0, 0x99, 0x99, 0xF0, 0x0F]

/-- The pattern of a kind of block (R4). -/
def patternOf : BlockKind → List Byte
  | .data => dataPattern
  | .mark => markPattern

/-- How many of the rows equal the frame in the same place of the pattern. -/
def agreeing (rows : List Row) (pattern : List Byte) : Nat :=
  (List.zipWith (fun r b => r == rowOf b) rows pattern).count true

/-- The pattern the first six lenient rows of a burst show: at least five of the six equal the
pattern's frames (R13). -/
def recognise (rows : List Row) : Option BlockKind :=
  if 5 ≤ agreeing rows dataPattern then some .data
  else if 5 ≤ agreeing rows markPattern then some .mark
  else none

/-! ## The checks (R7, R8) -/

/-- One bit of the cyclic check, terms x^16, x^12, x^5 and 1 (R8). -/
def crcBit (c : BitVec 16) (b : Bool) : BitVec 16 :=
  if c.msb ^^ b then (c <<< 1) ^^^ 0x1021 else c <<< 1

/-- One byte of the cyclic check, most significant bit first (R8). -/
def crcByte (c : BitVec 16) (b : Byte) : BitVec 16 :=
  [7, 6, 5, 4, 3, 2, 1, 0].foldl (fun c i => crcBit c (b.getLsbD i)) c

/-- The cyclic check of a sequence of bytes, the register starting at FFFFh (R8). -/
def crcOf (bytes : List Byte) : BitVec 16 := bytes.foldl crcByte 0xFFFF

/-- The longitudinal check of a sequence of bytes (R7). -/
def lrcOf (bytes : List Byte) : Byte := bytes.foldl (· ^^^ ·) 0

/-- The high byte of the cyclic check. -/
def crcHi (c : BitVec 16) : Byte := c.extractLsb' 8 8

/-- The low byte of the cyclic check. -/
def crcLo (c : BitVec 16) : Byte := c.extractLsb' 0 8

/-! ## Headers (R5 and the header layout) -/

/-- The fields of a block header (R5). -/
structure Header where
  kind : BlockKind
  stream : Bool
  discontinuity : Bool
  rewritten : Bool
  tag : Byte
  length : Nat
deriving DecidableEq, Repr

/-- The four header bytes, bits of no field 0 (R5, Block header on the tape). -/
def Header.bytes (h : Header) : List Byte :=
  [bitAt 7 (h.kind == .mark) ||| bitAt 0 h.stream ||| bitAt 1 h.discontinuity ||| bitAt 2 h.rewritten,
    h.tag, loByte h.length, BitVec.ofNat 8 (h.length / 256 % 8)]

/-- The fields read from four header bytes, bits of no field ignored (R5). -/
def Header.ofBytes (b1 b2 b3 b4 : Byte) : Header :=
  { kind := if b1.getLsbD 7 then .mark else .data
    stream := b1.getLsbD 0
    discontinuity := b1.getLsbD 1
    rewritten := b1.getLsbD 2
    tag := b2
    length := b3.toNat + 256 * (b4.toNat % 8) }

/-- The header of the header bytes committed, where there are four. -/
def Header.ofList : List Byte → Option Header
  | [b1, b2, b3, b4] => some (Header.ofBytes b1 b2 b3 b4)
  | _ => none

/-! ## The frames of a block (R3) -/

/-- The check group of a header and data (R3, R7, R8). -/
def checkGroup (bytes : List Byte) : List Byte :=
  [lrcOf bytes, crcHi (crcOf bytes), crcLo (crcOf bytes)]

/-- The bytes of a block's frames in the order of recording: preamble, header, data, check group,
postamble (R3). -/
def blockBytes (h : Header) (data : List Byte) : List Byte :=
  patternOf h.kind ++ h.bytes ++ data ++ checkGroup (h.bytes ++ data) ++ (patternOf h.kind).reverse

/-- The frames of a block, each with its row check bit (R1, R3). -/
def blockFrames (h : Header) (data : List Byte) : List Row := (blockBytes h data).map rowOf

end Sys2Proof.Machine
end

