-- ==== Sys2Proof/Machine/Flags.lean ====
section
/-! DEFINITION. The event flags, the interrupt line and the sticky host status flags (R187, R191,
R192). -/

namespace Sys2Proof.Machine

/-- The event flags (R191). -/
inductive Event where
  | resultPosted | resultStall | listEnded | frozenEntered | readAvailable | slotFreed | streamLoss
  | ew | cartridgeChange
deriving DecidableEq, Repr

/-- The place of an event flag: the low byte's bits 0 to 7, then bit 0 of the high byte (EVENTS
layout). -/
def Event.bit : Event → Nat
  | .resultPosted => 0
  | .resultStall => 1
  | .listEnded => 2
  | .frozenEntered => 3
  | .readAvailable => 4
  | .slotFreed => 5
  | .streamLoss => 6
  | .ew => 7
  | .cartridgeChange => 8

/-- The mask of an event flag. -/
def Event.mask (e : Event) : BitVec 9 := BitVec.ofNat 9 (2 ^ e.bit)

/-- The sticky flags of HOSTSTAT (R187). -/
inductive HostFlag where
  | droppedWrite | emptyRead | listLocked | clamped
deriving DecidableEq, Repr

/-- The place of a sticky flag (HOSTSTAT layout). -/
def HostFlag.bit : HostFlag → Nat
  | .droppedWrite => 0
  | .emptyRead => 1
  | .listLocked => 2
  | .clamped => 3

/-- The mask of a sticky flag. -/
def HostFlag.mask (f : HostFlag) : BitVec 4 := BitVec.ofNat 4 (2 ^ f.bit)

/-- Set an event flag, whatever EVMASK holds (R191). -/
def State.raise (e : Event) (s : State) : State :=
  s.setHost { s.host with events := s.host.events ||| e.mask }

/-- An event flag is set. -/
def State.event (s : State) (e : Event) : Bool := s.host.events.getLsbD e.bit

/-- Set a sticky flag of HOSTSTAT (R187). -/
def State.stick (f : HostFlag) (s : State) : State :=
  s.setHost { s.host with hoststat := s.host.hoststat ||| f.mask }

/-- Set CLAMPED where a value was stored other than as written (R187). -/
def State.stickIf (c : Bool) (f : HostFlag) (s : State) : State := if c then s.stick f else s

/-- A sticky flag is set. -/
def State.hostFlag (s : State) (f : HostFlag) : Bool := s.host.hoststat.getLsbD f.bit

/-- IRQN is asserted, low, while EVENTS and EVMASK have a flag in common (R192). -/
def State.irqAsserted (s : State) : Bool := (s.host.events &&& s.host.evmask) != 0

/-- Take the answer to a command or to a reporting write into CMDSTAT (R186). DEDUCED (log entry 39):
the index, which R186 uses with BAD_LIST alone, is 0 with every other answer. -/
def State.answer (a : Answer) (s : State) : State :=
  s.setHost { s.host with cmdstat := a, cmdIndex := 0 }

/-- BAD_LIST with the index of the bad entry (R56). -/
def State.answerBadList (ix : Nat) (s : State) : State :=
  s.setHost { s.host with cmdstat := .badList, cmdIndex := BitVec.ofNat 4 ix }

/-- Drive a byte on D0–D7 (R182). -/
def State.drive (b : Byte) (s : State) : State := s.setHost { s.host with busOut := b }

end Sys2Proof.Machine
end

