-- ==== Sys2Proof/Machine/Pool.lean ====
section
/-! DEFINITION. The block pool: the free set, the two queues, the fill slots, the held set, the
sequence tags, and the moves of a slot between them (R17 to R44). -/

namespace Sys2Proof.Machine

/-! ## Reading the pool -/

/-- The slot numbers, lowest first. -/
def allSlots : List SlotNo := [0, 1, 2, 3, 4, 5, 6, 7]

/-- The record of a slot. -/
def Pool.get (p : Pool) (n : SlotNo) : SlotRecord := p.slots[n.val]

/-- The lowest-numbered slot whose record meets a test. -/
def Pool.find (p : Pool) (t : SlotRecord → Bool) : Option SlotNo :=
  allSlots.find? (fun n => t (p.get n))

/-- The lowest-numbered FREE slot (R22). -/
def Pool.lowestFree (p : Pool) : Option SlotNo := p.find (fun r => r.state == .free)

/-- The free count (R18). -/
def Pool.freeCount (p : Pool) : Nat := (allSlots.filter (fun n => (p.get n).state == .free)).length

/-- The host fill slot (R37). -/
def Pool.hostFill (p : Pool) : Option SlotNo :=
  p.find (fun r => r.state == .filling && r.source == some .host)

/-- The stream fill slot (R37). -/
def Pool.streamFill (p : Pool) : Option SlotNo :=
  p.find (fun r => r.state == .filling && r.source == some .stream)

/-- FILLCNT: the host fill slot's length, or 0 (R34). -/
def Pool.fillCount (p : Pool) : Nat := (p.hostFill.map (fun n => (p.get n).length)).getD 0

/-- DRAINCNT: the bytes of the read queue's head not yet read, or 0 (R39). -/
def Pool.drainCount (p : Pool) : Nat :=
  match p.readQ with
  | [] => 0
  | n :: _ => (p.get n).length - p.drain

/-- The address of byte `k` of slot `n`. -/
def slotAddr (n : SlotNo) (k : Nat) : Nat := Config.slotBytes * n.val + k

/-- The bytes of a slot's block, first byte first (R17). -/
def Pool.bytes (p : Pool) (n : SlotNo) : List Byte :=
  (List.range (p.get n).length).map (fun k => p.data.read (slotAddr n k))

/-! ## Changing one record -/

/-- Put a record in a slot's place. -/
def Pool.put (p : Pool) (n : SlotNo) (r : SlotRecord) : Pool :=
  { p with slots := p.slots.set n.val r }

/-- Change the fields of a slot's record other than its state. -/
def Pool.edit (p : Pool) (n : SlotNo) (f : SlotRecord → SlotRecord) : Pool :=
  p.put n { f (p.get n) with state := (p.get n).state }

/-- Append a byte to a slot that has room for it; the length advances by one (R34, R121). -/
def Pool.append (p : Pool) (n : SlotNo) (b : Byte) : Pool :=
  if (p.get n).length < Config.slotBytes then
    { p.edit n (fun r => { r with length := r.length + 1 }) with
      data := p.data.write (slotAddr n (p.get n).length) b }
  else p

/-! ## Moves between the collections -/

/-- The record of a slot granted to the host or to the stream port for filling (R20, R22). -/
def SlotRecord.filling (src : Source) : SlotRecord :=
  { SlotRecord.free with state := .filling, source := some src, kind := some .data }

/-- The record of a slot granted to a read claim (R21). -/
def SlotRecord.claimed : SlotRecord :=
  { SlotRecord.free with state := .active, source := some .medium, kind := some .data }

/-- The record of a mark slot made by QUEUE_MARK, with its tag (R36). -/
def SlotRecord.queuedMark (t : Byte) : SlotRecord :=
  { SlotRecord.free with state := .queued, source := some .host, kind := some .mark, tag := some t }

/-- A FREE slot is granted for filling (R22). -/
def Pool.grantFill (p : Pool) (n : SlotNo) (src : Source) : Pool :=
  if (p.get n).state = .free then p.put n (.filling src) else p

/-- A FREE slot is granted to a read claim (R22). -/
def Pool.grantRead (p : Pool) (n : SlotNo) : Pool :=
  if (p.get n).state = .free then p.put n .claimed else p

/-- A FREE slot is queued as a mark with the next tag (R25, R36). -/
def Pool.grantMark (p : Pool) (n : SlotNo) : Pool :=
  if (p.get n).state = .free then
    { p.put n (.queuedMark p.tag) with writeQ := p.writeQ ++ [n], tag := p.tag + 1 }
  else p

/-- A slot in the given state becomes FREE (R23). -/
def Pool.toFree (p : Pool) (st : SlotState) (n : SlotNo) : Pool :=
  if (p.get n).state = st ∧ st ≠ .queued ∧ st ≠ .ready then p.put n .free else p

/-- A FILLING slot joins the write queue at the tail with the next tag, which the counter then passes
(R25, R35, R38). -/
def Pool.queueFilled (p : Pool) (n : SlotNo) : Pool :=
  if (p.get n).state = .filling then
    { p.put n { p.get n with state := .queued, tag := some p.tag } with
      writeQ := p.writeQ ++ [n], tag := p.tag + 1 }
  else p

/-- A HELD slot joins the write queue at the tail with the tag it has (R41). -/
def Pool.requeue (p : Pool) (n : SlotNo) : Pool :=
  if (p.get n).state = .held then
    { p.put n { p.get n with state := .queued } with writeQ := p.writeQ ++ [n] }
  else p

/-- The ACTIVE slot returns to the head of the write queue with its tag (R28). -/
def Pool.headReturn (p : Pool) (n : SlotNo) : Pool :=
  if (p.get n).state = .active then
    { p.put n { p.get n with state := .queued } with writeQ := n :: p.writeQ }
  else p

/-- The head of the write queue becomes ACTIVE, its REWRITTEN flag cleared (R20, R26). -/
def Pool.takeHead (p : Pool) : Pool :=
  match p.writeQ with
  | [] => p
  | n :: q => { p.put n { p.get n with state := .active, rewritten := false } with writeQ := q }

/-- The ACTIVE slot becomes HELD (R27). -/
def Pool.hold (p : Pool) (n : SlotNo) : Pool :=
  if (p.get n).state = .active then p.put n { p.get n with state := .held } else p

/-- A slot in the given state, ACTIVE or HELD, joins the read queue at the tail. The drain cursor
returns to 0 where the queue was empty (R30, R39, R42). -/
def Pool.toReadTail (p : Pool) (st : SlotState) (n : SlotNo) : Pool :=
  if (p.get n).state = st ∧ st ≠ .queued ∧ st ≠ .ready then
    { p.put n { p.get n with state := .ready } with
      readQ := p.readQ ++ [n]
      drain := if p.readQ = [] then 0 else p.drain }
  else p

/-- The ACTIVE slot takes the place of the read queue's tail, which becomes FREE. The drain cursor
returns to 0 where the tail was also the head (R31, R39). -/
def Pool.replaceTail (p : Pool) (n : SlotNo) : Pool :=
  match p.readQ.getLast? with
  | none => p
  | some t =>
    if (p.get n).state = .active ∧ t ≠ n then
      { (p.put t .free).put n { p.get n with state := .ready } with
        readQ := p.readQ.dropLast ++ [n]
        drain := if p.readQ.dropLast = [] then 0 else p.drain }
    else p

/-- The head of the read queue leaves it and becomes FREE, and the drain cursor is 0 (R40). -/
def Pool.releaseHead (p : Pool) : Pool :=
  match p.readQ with
  | [] => p
  | n :: q => { p.put n .free with readQ := q, drain := 0 }

/-! ## The pool in the machine -/

/-- The record of a slot. -/
def State.slot (s : State) (n : SlotNo) : SlotRecord := s.pool.get n

/-- Change the fields of a slot's record other than its state. -/
def State.editSlot (n : SlotNo) (f : SlotRecord → SlotRecord) (s : State) : State :=
  s.setPool (s.pool.edit n f)

/-- The stream port makes its claim: granted when the free count is greater than the stream reserve,
the port then FILLING with loss noted clear, and otherwise STARVED (R37, R175, R177). -/
def State.streamClaim (s : State) : State :=
  match s.pool.lowestFree with
  | none => s.setStream { s.stream with state := .starved }
  | some n =>
    if s.stream.reserve < s.pool.freeCount then
      (s.setPool (s.pool.grantFill n .stream)).setStream
        { s.stream with state := .filling, lossNoted := false }
    else s.setStream { s.stream with state := .starved }

/-- A STARVED port's claim is tried again (R23, R177). -/
def State.retryStreamClaim (s : State) : State :=
  if s.stream.state = .starved then s.streamClaim else s

/-- What follows a slot's becoming FREE once a waiting read claim has been served: the STARVED stream
port's claim is tried, and SLOT_FREED is raised if the free count was 0 before the event and is at
least 1 now (R23). -/
def State.settleFree (before : Nat) (s : State) : State :=
  let s := s.retryStreamClaim
  if before = 0 ∧ 0 < s.pool.freeCount then s.raise .slotFreed else s

/-- The ACTIVE slot of the running unit becomes FREE (R23, R27, R30). No read claim waits then, since
the running unit holds its slot. DEDUCED (log entry 40): the free count before the event is the one just
before the freeing, whatever was claimed earlier in the same event, and a later claim does not take
SLOT_FREED back. -/
def State.freeActive (n : SlotNo) (s : State) : State :=
  (s.setPool (s.pool.toFree .active n)).settleFree s.pool.freeCount

/-- A slot joins the read queue at the tail, and READ_AVAILABLE is raised where the queue was empty
(R30, R32). -/
def State.joinReadTail (st : SlotState) (n : SlotNo) (s : State) : State :=
  let s' := s.setPool (s.pool.toReadTail st n)
  if s.pool.readQ = [] ∧ s'.pool.readQ ≠ [] then s'.raise .readAvailable else s'

/-- The read queue's tail holds a tag: it has source MEDIUM and that tag (R31). -/
def Pool.tailHolds (p : Pool) (t : Byte) : Bool :=
  match p.readQ.getLast? with
  | none => false
  | some n => (p.get n).source == some .medium && (p.get n).tag == some t

/-- The class of the read queue's tail slot (R31). -/
def Pool.tailClass (p : Pool) : Option ReadClass :=
  p.readQ.getLast?.bind (fun n => (p.get n).read.cls)

/-- What became of a delivered block (R131). -/
inductive Delivery where
  | joined | replaced | dropped
deriving DecidableEq, Repr

/-- Which way a delivered block goes (R131): the entry's SUPERSEDE against the tail test. -/
def Pool.delivery (p : Pool) (supersede : Bool) (r : SlotRecord) : Delivery :=
  match r.read.finding, r.tag with
  | .duplicate, some t =>
    if supersede && p.tailHolds t then
      if p.tailClass = some .damaged then .replaced else .dropped
    else .joined
  | _, _ => .joined

/-- The flag that a finding leaves on a block that joins the tail (R131). -/
def ReadStatus.flagged (r : ReadStatus) : ReadStatus :=
  match r.finding with
  | .seqBreak => { r with sequenceBreak := true }
  | .duplicate => { r with duplicate := true }
  | _ => r

/-- Deliver the ACTIVE block read to the read queue by the table of R131. -/
def State.deliver (supersede : Bool) (n : SlotNo) (s : State) : State :=
  match s.pool.delivery supersede (s.slot n) with
  | .joined =>
    (s.editSlot n (fun r => { r with read := r.read.flagged })).joinReadTail .active n
  | .replaced =>
    let s' := s.editSlot n (fun r => { r with read := { r.read with supersedes := true } })
    (s'.setPool (s'.pool.replaceTail n)).settleFree s.pool.freeCount
  | .dropped => s.freeActive n

/-- Deliver the ACTIVE block read at the tail without the tail test, its class DAMAGED if it was
absent (R30, R83, R94, R131). -/
def State.deliverCut (n : SlotNo) (s : State) : State :=
  (s.editSlot n (fun r =>
    { r with read := { r.read.flagged with cls := some (r.read.cls.getD .damaged) } })).joinReadTail
      .active n

end Sys2Proof.Machine
end

