-- ==== Sys2Proof/Machine/Position.lean ====
section
/-! DEFINITION. The position tracker: the position record, the counts of blocks and marks, and the
file map (R135 to R147). -/

namespace Sys2Proof.Machine

/-! ## The file map (R143, R144) -/

/-- The count of a file in the map, where it holds one. -/
def mapLookup (m : List (Nat × Nat)) (f : Nat) : Option Nat :=
  (m.find? (fun e => e.1 == f)).map (·.2)

/-- The map holds an entry for a file. -/
def mapHolds (m : List (Nat × Nat)) (f : Nat) : Bool := m.any (fun e => e.1 == f)

/-- Put an entry in its place in file order; an entry for the same file takes the new count. -/
def mapPlace : List (Nat × Nat) → Nat → Nat → List (Nat × Nat)
  | [], f, n => [(f, n)]
  | (g, c) :: m, f, n =>
    if f < g then (f, n) :: (g, c) :: m
    else if f = g then (f, n) :: m
    else (g, c) :: mapPlace m f n

/-- The insertion of a file with its count (R143): a full map gives up its lowest file, unless the
new file is lower than every file held. -/
def mapInsert (m : List (Nat × Nat)) (f n : Nat) : List (Nat × Nat) :=
  if mapHolds m f || m.length < Config.mapRoom then mapPlace m f n
  else
    match m with
    | [] => [(f, n)]
    | (g, _) :: rest => if g < f then mapPlace rest f n else m

/-- The truncation at a file: the entries of that file and of every later one go (R144). -/
def mapTruncate (m : List (Nat × Nat)) (f : Nat) : List (Nat × Nat) :=
  m.filter (fun e => e.1 < f)

/-- The file map is as R143 has it: at most 16 entries, in strictly ascending file order. -/
def mapWf (m : List (Nat × Nat)) : Bool :=
  decide (m.length ≤ Config.mapRoom) && decide (m.Pairwise (fun a b => a.1 < b.1))

/-! ## The position record -/

/-- The zone becomes UNKNOWN and the file and block absent (R135, R145). -/
def Position.lost (p : Position) : Position :=
  { p with zone := .unknown, file := none, block := none }

/-- BOM reached: AT_BOM, file 0, block 0, the map left as it is (R136). -/
def Position.bomReached (p : Position) : Position :=
  { p with zone := .atBom, file := some 0, block := some 0 }

/-- A marker edge sets the zone while it is not UNKNOWN (R137, R138). -/
def Position.edge (z : Zone) (p : Position) : Position :=
  if p.zone = .unknown ∨ z = .unknown then p else { p with zone := z }

/-- The map truncated at the current file (R144). -/
def Position.truncate (p : Position) : Position :=
  match p.file with
  | none => p
  | some f => { p with map := mapTruncate p.map f }

/-- The erasing-begun report (R137, R144). -/
def Position.erasingBegun (p : Position) : Position :=
  if p.zone = .unknown then p else p.truncate

/-- One more block forward: a block of 65,535 becomes absent (R139). -/
def blockUp (b : Option Nat) : Option Nat :=
  b.bind (fun n => if n < Config.positionMax then some (n + 1) else none)

/-- One block less in reverse: a block of 0 becomes absent (R141). -/
def blockDown (b : Option Nat) : Option Nat :=
  b.bind (fun n => if 0 < n then some (n - 1) else none)

/-- A forward block report, written or detected (R137, R139). -/
def Position.forwardBlock (written : Bool) (p : Position) : Position :=
  if p.zone = .unknown then p
  else
    let p := if written then p.truncate else p
    { p with block := blockUp p.block }

/-- A forward mark report, written or detected (R137, R140). -/
def Position.forwardMark (written : Bool) (p : Position) : Position :=
  if p.zone = .unknown then p
  else
    match p.file with
    | none => p
    | some f =>
      let p := if written then p.truncate else p
      let p := match p.block with
        | none => p
        | some b => { p with map := mapInsert p.map f b }
      if f < Config.positionMax then { p with file := some (f + 1), block := some 0 } else p.lost

/-- A forward report of a kind of block. -/
def Position.forwardReport (written : Bool) : BlockKind → Position → Position
  | .data => Position.forwardBlock written
  | .mark => Position.forwardMark written

/-- A reverse block report, not applied in UNKNOWN and at BOM (R137, R141). -/
def Position.reverseBlock (p : Position) : Position :=
  if p.zone = .unknown ∨ p.zone = .atBom then p else { p with block := blockDown p.block }

/-- A reverse mark report, not applied in UNKNOWN and at BOM (R137, R142). -/
def Position.reverseMark (p : Position) : Position :=
  if p.zone = .unknown ∨ p.zone = .atBom then p
  else
    match p.file with
    | none => p
    | some 0 => p.lost
    | some (f + 1) => { p with file := some f, block := mapLookup p.map f }

/-- A reverse report of a kind of block. -/
def Position.reverseReport : BlockKind → Position → Position
  | .data => Position.reverseBlock
  | .mark => Position.reverseMark

/-- The report of a detection in a direction (R126, R127). -/
def Position.detected (d : Dir) (k : BlockKind) : Position → Position :=
  match d with
  | .forward => Position.forwardReport false k
  | .reverse => Position.reverseReport k

/-- PRESENT falls: the position is lost and the map emptied (R145). -/
def Position.cartridgeGone (p : Position) : Position := { p.lost with map := [] }

/-! ## The tracker in the machine -/

/-- A change made by the position tracker. -/
def State.onPos (f : Position → Position) (s : State) : State := s.setPos (f s.pos)

end Sys2Proof.Machine
end

