-- ==== Sys2Proof/Machine/Transport.lean ====
section
/-! DEFINITION. The transport controller: the motion states and their lines, the motion requests, the
linger, and the requests that are held or deferred (R149 to R162). -/

namespace Sys2Proof.Machine

/-! ## The timing table (R151, R152) -/

/-- The entry at an index of the timing table. -/
def Timing.get (t : Timing) (i : Fin 10) : Byte :=
  match i with
  | 0 => t.startRamp
  | 1 => t.stopRamp
  | 2 => t.writeGap
  | 3 => t.verifyLag
  | 4 => t.readSilence
  | 5 => t.blankWindow
  | 6 => t.eraseLength
  | 7 => t.rewindLimit
  | 8 => t.linger
  | 9 => t.frameDiv

/-- Store an entry of the timing table. -/
def Timing.set (t : Timing) (i : Fin 10) (b : Byte) : Timing :=
  match i with
  | 0 => { t with startRamp := b }
  | 1 => { t with stopRamp := b }
  | 2 => { t with writeGap := b }
  | 3 => { t with verifyLag := b }
  | 4 => { t with readSilence := b }
  | 5 => { t with blankWindow := b }
  | 6 => { t with eraseLength := b }
  | 7 => { t with rewindLimit := b }
  | 8 => { t with linger := b }
  | 9 => { t with frameDiv := b }

/-- The least value of an entry (R152). -/
def timingLeast (i : Fin 10) : Byte :=
  match i with
  | 4 => 2
  | 8 => 0
  | 9 => 20
  | _ => 1

/-- The greatest value of an entry (R152). -/
def timingGreatest (i : Fin 10) : Byte :=
  match i with
  | 4 => 15
  | _ => 255

/-- A value clamped to an entry's range (R151, R152). -/
def timingClamp (i : Fin 10) (b : Byte) : Byte :=
  if b < timingLeast i then timingLeast i else if timingGreatest i < b then timingGreatest i else b

/-! ## Lines (R149) -/

/-- MOTION. -/
def Transport.motionLine (x : Transport) : Bool :=
  match x.motion with
  | .starting | .running | .rewinding => true
  | _ => false

/-- REVERSE: on in reverse motion, and kept through STOPPING. -/
def Transport.reverseLine (x : Transport) : Bool :=
  match x.motion with
  | .starting | .running | .stopping => x.dir == .reverse
  | .rewinding => true
  | _ => false

/-- FAST: on in REWINDING, and kept through STOPPING. -/
def Transport.fastLine (x : Transport) : Bool :=
  match x.motion with
  | .rewinding => true
  | .stopping => x.fast
  | _ => false

/-- UNLOAD. -/
def Transport.unloadLine (x : Transport) : Bool := x.motion == .unloading

/-! ## Motion -/

/-- The tape is in STARTING, RUNNING or STOPPING. -/
def Transport.ramping (x : Transport) : Bool :=
  match x.motion with
  | .starting | .running | .stopping => true
  | _ => false

/-- The tape moves forward at, from or towards running speed (R138, R159). -/
def Transport.movingForward (x : Transport) : Bool := x.ramping && x.dir == .forward

/-- The tape moves in reverse, a rewind included (R136, R138). -/
def Transport.movingReverse (x : Transport) : Bool :=
  (x.ramping && x.dir == .reverse) || x.motion == .rewinding

/-- The transport is RUNNING forward. -/
def Transport.runningForward (x : Transport) : Bool := x.motion == .running && x.dir == .forward

/-- The transport is at rest for ABORTING (R73). -/
def Transport.atRest (x : Transport) : Bool :=
  match x.motion with
  | .stopped | .noCartridge | .notReady | .fault => true
  | _ => false

/-- The read channel listens while the tape moves at running speed, its ramps included, but not in
REWINDING or UNLOADING nor in STOPPING with FAST on (R116). -/
def Transport.listening (x : Transport) : Bool := x.ramping && !x.fastLine

/-- Turn both gates off and clear the run indication (R97). -/
def State.dropGates (s : State) : State :=
  s.setWch { s.wch with wgate := false, egate := false, run := false }

/-- The conditions under which a gate may be on: RUNNING forward with WPERMIT present (R97). -/
def State.mayGate (s : State) : Bool := s.xp.runningForward && s.xp.levels.wpermit

/-- Enter a motion state. The timers of the state left are stopped. Both gates turn off in the event
unless the transport is then RUNNING forward (R97, R149). -/
def State.enterMotion (m : Motion) (d : Dir) (fast : Bool) (s : State) : State :=
  let s := if m = .running ∧ d = .forward then s else s.dropGates
  s.setXp { s.xp with
    motion := m, dir := d, fast := fast, keptIdle := false, rampTimer := none, lingerTimer := none,
    rewindTimer := none, blankTimer := none }

/-- The forward-run tag memory is set to EMPTY (R129). -/
def State.forgetTags (s : State) : State := s.setRch { s.rch with tagMem := none }

/-- The straddle indication is cleared (R118). -/
def State.clearStraddle (s : State) : State := s.setRch { s.rch with straddle := none }

/-- Replace the held request. -/
def State.hold (r : Option HeldRequest) (s : State) : State := s.setXp { s.xp with held := r }

/-- Replace the unload indication. -/
def State.setUnloadInd (b : Bool) (s : State) : State := s.setXp { s.xp with unloadInd := b }

/-- Replace the deferred requests. -/
def State.setDeferred (l : List Deferred) (s : State) : State :=
  s.setXp { s.xp with deferred := l }

/-- Enter STARTING with its ramp (R154). Reverse motion clears the tag memory as it begins, in the
event in which the channel first listens in reverse (R127, R129). DEDUCED (log entry 29): a request that
is still held as this one is taken, the tape having just come to rest, is dropped without an answer. -/
def State.startMotion (d : Dir) (s : State) : State :=
  let s := s.enterMotion .starting d false
  let s := s.setXp { s.xp with rampTimer := some s.xp.timing.startRamp, held := none }
  if d = .reverse then s.forgetTags else s

/-- Enter STOPPING with its ramp, REVERSE and FAST kept at their levels (R149, R155). -/
def State.stopMotion (s : State) : State :=
  let fast := s.xp.fastLine
  let s := s.enterMotion .stopping s.xp.dir fast
  s.setXp { s.xp with rampTimer := some s.xp.timing.stopRamp }

/-- Enter REWINDING (R160). The tracker takes the start of rewinding (R145), and the read channel its
consequences (R118, R129). A request still held is dropped (DEDUCED, log entry 29). -/
def State.startRewind (s : State) : State :=
  let s := s.enterMotion .rewinding .reverse false
  let s := s.setXp { s.xp with rewindTimer := some s.xp.timing.rewindLimit, held := none }
  ((s.onPos .lost).forgetTags).clearStraddle

/-- The eject phase begins: UNLOADING, UNLOAD set, the rewind timer afresh (R161, R162). -/
def State.beginEject (s : State) : State :=
  let s := s.enterMotion .unloading s.xp.dir false
  let s := s.setXp { s.xp with
    unloadInd := false, rewindTimer := some s.xp.timing.rewindLimit }
  (s.forgetTags).clearStraddle

/-- Release all lines at once and enter a state at rest. The held request and the unload indication go
(R149, R159, R163, R164). -/
def State.releaseLines (m : Motion) (s : State) : State :=
  (s.enterMotion m s.xp.dir false).setUnloadInd false |>.hold none

/-! ## Stop requests and the idle report -/

/-- A STOP request taken (R155). DEDUCED (log entry 43): in UNLOADING it drops a held request too, as in
every other state of motion. -/
def State.takeStop (s : State) : State :=
  match s.xp.motion with
  | .starting | .running => (s.stopMotion).hold none
  | .rewinding => ((s.stopMotion).hold none).setUnloadInd false
  | .stopping => (s.hold none).setUnloadInd false
  | .unloading => (s.enterMotion .stopped s.xp.dir false |>.hold none).setUnloadInd false
  | .stopped | .noCartridge | .notReady | .fault => s

/-- A request is deferred: a later one of its kind takes the place of an earlier one (R157). An idle
report after a deferred STOP is taken as the STOP. -/
def State.defer (r : Deferred) (s : State) : State :=
  if r = .idle ∧ .stop ∈ s.xp.deferred then s
  else s.setDeferred (s.xp.deferred.filter (fun q => q != r) ++ [r])

/-- A STOP request that the write channel may defer (R155, R157). -/
def State.requestStop (s : State) : State :=
  if s.wch.phase = .block then s.defer .stop else s.takeStop

/-- The linger begins: the linger timer starts, or STOPPING is entered at once where LINGER is 0. A
linger in progress is not restarted (R158). -/
def State.beginLinger (s : State) : State :=
  if s.xp.lingerTimer.isSome then s
  else if s.xp.timing.linger = 0 then s.takeStop
  else s.setXp { s.xp with lingerTimer := some s.xp.timing.linger }

/-- An idle report taken: it begins the linger in RUNNING, is kept in STARTING, and changes nothing in
any other state (R154, R158). -/
def State.takeIdle (s : State) : State :=
  match s.xp.motion with
  | .running => s.beginLinger
  | .starting => s.setXp { s.xp with keptIdle := true }
  | _ => s

/-- The idle report, which the write channel may defer (R157, R158). -/
def State.idleReport (s : State) : State :=
  if s.wch.phase = .block then s.defer .idle else s.takeIdle

/-! ## Motion requests -/

/-- The transport's answer to a motion request. -/
inductive Reply where
  /-- Taken, held or deferred. -/
  | taken
  /-- Done at once without motion (R160). -/
  | done
  | refused (o : EntryOutcome)
deriving DecidableEq, Repr

/-- Enter STOPPING for a request that then waits, held (R153, R160). -/
def State.stopAndHold (r : HeldRequest) (s : State) : State := (s.stopMotion).hold (some r)

/-- A FORWARD or REVERSE request by the motion state, its marker check passed (R153). A request in the
current direction in RUNNING ends a linger. -/
def State.takeDir (d : Dir) (s : State) : State × Reply :=
  match s.xp.motion with
  | .stopped => (s.startMotion d, .taken)
  | .starting =>
    if d = s.xp.dir then (s.setXp { s.xp with keptIdle := false }, .taken)
    else (s.stopAndHold (.dir d), .taken)
  | .running =>
    if d = s.xp.dir then (s.setXp { s.xp with lingerTimer := none }, .taken)
    else if s.wch.phase = .block then (s.defer .reverse, .taken)
    else (s.stopAndHold (.dir d), .taken)
  | .stopping | .rewinding | .unloading => (s.hold (some (.dir d)), .taken)
  | .noCartridge | .notReady => (s, .refused .notReady)
  | .fault => (s, .refused .transportFault)

/-- A FORWARD or REVERSE request: first the check of the marker level (R156), then the answer by the
motion state (R153). -/
def State.requestDir (d : Dir) (s : State) : State × Reply :=
  match d with
  | .reverse =>
    if s.xp.levels.bom then (s.onPos .bomReached, .refused .bomMet) else s.takeDir .reverse
  | .forward => if s.xp.levels.eom then (s, .refused .eomMet) else s.takeDir .forward

/-- A REWIND begun with the tape at rest: done at once where BOM is present, a transport in FAULT then
entering STOPPED (R160). -/
def State.rewindAtRest (s : State) : State × Reply :=
  if s.xp.levels.bom then
    let s := if s.xp.motion = .fault then s.enterMotion .stopped s.xp.dir false else s
    (s.onPos .bomReached, .done)
  else (s.startRewind, .taken)

/-- An UNLOAD begun with the tape at rest: the eject phase begins at once where BOM is present
(R161). -/
def State.unloadAtRest (s : State) : State × Reply :=
  let s := s.setUnloadInd true
  if s.xp.levels.bom then ((s.onPos .bomReached).beginEject, .taken) else (s.startRewind, .taken)

/-- A REWIND or UNLOAD request by the motion state (R160, R161). -/
def State.requestLong (r : HeldRequest) (q : Deferred) (go : State → State × Reply) (s : State) :
    State × Reply :=
  match s.xp.motion with
  | .stopped => go s
  | .fault => if s.xp.levels.ready then go s else (s, .refused .notReady)
  | .starting => (s.stopAndHold r, .taken)
  | .running =>
    if s.wch.phase = .block then (s.defer q, .taken) else (s.stopAndHold r, .taken)
  | .stopping | .unloading => (s.hold (some r), .taken)
  | .rewinding => (s, .taken)
  | .noCartridge | .notReady => (s, .refused .notReady)

/-- A REWIND request (R160). -/
def State.requestRewind (s : State) : State × Reply :=
  s.requestLong .rewind .rewind State.rewindAtRest

/-- An UNLOAD request (R161). -/
def State.requestUnload (s : State) : State × Reply :=
  s.requestLong .unload .unload State.unloadAtRest

/-- A request of any kind that can be held. -/
def State.request (r : HeldRequest) (s : State) : State × Reply :=
  match r with
  | .dir d => s.requestDir d
  | .rewind => s.requestRewind
  | .unload => s.requestUnload

/-- The motion request that was deferred, where it is one. -/
def Deferred.request : Deferred → Option HeldRequest
  | .stop | .idle => none
  | .reverse => some (.dir .reverse)
  | .rewind => some .rewind
  | .unload => some .unload

/-- A deferred request is taken, a motion request as if newly made, with the checks of R156 (R157). -/
def State.takeOneDeferred (r : Deferred) (s : State) : State × Reply :=
  match r with
  | .stop => (s.takeStop, .taken)
  | .idle => (s.takeIdle, .taken)
  | .reverse => s.requestDir .reverse
  | .rewind => s.requestRewind
  | .unload => s.requestUnload

/-- The deferred requests are taken in an event that ends BLOCK and ends what they were made for: the
oldest first, with nobody to answer (R157; log entry 9). -/
def State.spendDeferred (s : State) : State :=
  s.xp.deferred.foldl (fun s r => (s.takeOneDeferred r).1) (s.setDeferred [])

end Sys2Proof.Machine
end

