-- ==== Sys2Proof/Machine/Operands.lean ====
section
/-! DEFINITION. The operand forms and the register images: list entries as the sequencer reads them,
the codes, and every register and record of the host's window as bytes (the layout section, R45 to
R47, R58, R66, R106, R148, R150, R169). Bits that belong to no field are 0 (R182). -/

namespace Sys2Proof.Machine

/-! ## Codes -/

/-- The code of an operation (the Codes tables). -/
def Op.code : Op → Byte
  | .write => 0x01
  | .mark => 0x02
  | .read => 0x03
  | .spaceFwd => 0x04
  | .spaceRev => 0x05
  | .seekFwd => 0x06
  | .seekRev => 0x07
  | .erase => 0x08
  | .rewind => 0x09
  | .unload => 0x0A
  | .retry => 0x11
  | .skip => 0x12
  | .freeze => 0x13

/-- The ten operations of the main list (R47). -/
def mainOps : List Op :=
  [.write, .mark, .read, .spaceFwd, .spaceRev, .seekFwd, .seekRev, .erase, .rewind, .unload]

/-- The six operations of the recovery list (R56). -/
def recoveryOps : List Op := [.spaceFwd, .spaceRev, .erase, .retry, .skip, .freeze]

/-- The operation of a list that a code names. -/
def opOf (ops : List Op) (code : Byte) : Option Op := ops.find? (fun o => o.code == code)

/-- The code of an outcome (the Codes tables). -/
def EntryOutcome.code : EntryOutcome → Byte
  | .done => 0x01
  | .stopped => 0x02
  | .fileMarkMet => 0x03
  | .bomMet => 0x04
  | .blankMet => 0x05
  | .ewMet => 0x06
  | .eomMet => 0x07
  | .writeProtected => 0x08
  | .positionUnknown => 0x09
  | .notReady => 0x0A
  | .transportFault => 0x0B
  | .aborted => 0x0C

/-- The short outcomes (R61). -/
def EntryOutcome.short : EntryOutcome → Bool
  | .fileMarkMet | .bomMet | .blankMet | .ewMet => true
  | _ => false

/-- The terminal outcomes but ABORTED (R61). -/
def EntryOutcome.terminal : EntryOutcome → Bool
  | .eomMet | .writeProtected | .positionUnknown | .notReady | .transportFault => true
  | _ => false

/-- The status code of CMDSTAT. -/
def Answer.code : Answer → Nat
  | .none => 0
  | .accepted => 1
  | .busy => 2
  | .idleState => 3
  | .badList => 4
  | .noSlot => 5
  | .fillOpen => 6
  | .emptyFill => 7
  | .readEmpty => 8
  | .notHeld => 9
  | .queueBusy => 10
  | .resultEmpty => 11
  | .portBusy => 12
  | .badLength => 13
  | .unknownCode => 14

/-- LISTEND's codes. -/
def EndCause.code : EndCause → Byte
  | .none => 0
  | .completed => 1
  | .stopped => 2
  | .aborted => 3
  | .terminal => 4
  | .softReset => 5

/-- The sequencer state's codes. -/
def SeqState.code : SeqState → Nat
  | .idle => 0
  | .running => 1
  | .stopping => 2
  | .recovery => 3
  | .frozen => 4
  | .postWait => 5
  | .aborting => 6

/-- The motion state's codes. -/
def Motion.code : Motion → Nat
  | .noCartridge => 0
  | .notReady => 1
  | .fault => 2
  | .stopped => 3
  | .starting => 4
  | .running => 5
  | .stopping => 6
  | .rewinding => 7
  | .unloading => 8

/-- The held request's codes. -/
def heldCode : Option HeldRequest → Nat
  | none => 0
  | some (.dir .forward) => 1
  | some (.dir .reverse) => 2
  | some .rewind => 3
  | some .unload => 4

/-- The zone's codes. -/
def Zone.code : Zone → Nat
  | .unknown => 0
  | .atBom => 1
  | .inData => 2
  | .pastEw => 3
  | .atEom => 4

/-- The slot state's codes. -/
def SlotState.code : SlotState → Nat
  | .free => 0
  | .filling => 1
  | .queued => 2
  | .active => 3
  | .held => 4
  | .ready => 5

/-- The source's codes, 0 where it is absent. -/
def sourceCode : Option Source → Nat
  | none => 0
  | some .host => 1
  | some .stream => 2
  | some .medium => 3

/-- The write verify class's codes, 0 where it is absent. -/
def writeClassCode : Option WriteClass → Nat
  | none => 0
  | some .clean => 1
  | some .marginal => 2
  | some .failed => 3

/-- The read class's codes, 0 where it is absent. -/
def readClassCode : Option ReadClass → Nat
  | none => 0
  | some .clean => 1
  | some .marginal => 2
  | some .damaged => 3

/-- The unit kind's codes, of SEQSTAT byte 1 and of the capture record. -/
def UnitKind.code : UnitKind → Nat
  | .write => 1
  | .mark => 2
  | .read => 3

/-- The capture record's class codes, 0 where it is absent. -/
def captureClassCode : Option CaptureClass → Nat
  | none => 0
  | some .marginal => 1
  | some .failed => 2
  | some .damaged => 3

/-- The port state's codes. -/
def PortState.code : PortState → Nat
  | .off => 0
  | .filling => 1
  | .starved => 2

/-! ## List entries (R45, R47) -/

/-- The four bytes of a list entry. -/
structure ListEntry where
  opcode : Byte
  count : Byte
  flags : Byte
  budget : Byte
deriving DecidableEq, Repr

/-- The list entry at an address of list memory. -/
def Sequencer.entryAt (q : Sequencer) (a : Nat) : ListEntry :=
  { opcode := q.listMem.read a, count := q.listMem.read (a + 1), flags := q.listMem.read (a + 2),
    budget := q.listMem.read (a + 3) }

/-- Main entry Mn (R45). -/
def Sequencer.main (q : Sequencer) (n : Nat) : ListEntry := q.entryAt (4 * n)

/-- Recovery entry Vn (R45). -/
def Sequencer.recovery (q : Sequencer) (n : Nat) : ListEntry := q.entryAt (32 + 4 * n)

/-- The main-list operation of an entry. -/
def ListEntry.mainOp (e : ListEntry) : Option Op := opOf mainOps e.opcode

/-- The recovery-list operation of an entry. -/
def ListEntry.recoveryOp (e : ListEntry) : Option Op := opOf recoveryOps e.opcode

/-- The entry is a WRITE, MARK or ERASE. -/
def ListEntry.writes (e : ListEntry) : Bool :=
  match e.mainOp with
  | some .write | some .mark | some .erase => true
  | _ => false

/-- The entry moves the tape forward from its first unit (R59, check 5). -/
def ListEntry.forward (e : ListEntry) : Bool :=
  match e.mainOp with
  | some .write | some .mark | some .read | some .spaceFwd | some .seekFwd | some .erase => true
  | _ => false

/-- The entry is a REWIND or an UNLOAD. -/
def ListEntry.long (e : ListEntry) : Bool :=
  match e.mainOp with
  | some .rewind | some .unload => true
  | _ => false

/-- VERIFY. -/
def ListEntry.verify (e : ListEntry) : Bool := e.flags.getLsbD 0

/-- STRICT. -/
def ListEntry.strict (e : ListEntry) : Bool := e.flags.getLsbD 1

/-- HALT_ON_SHORT. -/
def ListEntry.haltOnShort (e : ListEntry) : Bool := e.flags.getLsbD 2

/-- STOP_AT_EW, which only a WRITE, MARK or ERASE entry heeds (R47). -/
def ListEntry.stopAtEw (e : ListEntry) : Bool := e.writes && e.flags.getLsbD 3

/-- SUPERSEDE. -/
def ListEntry.supersede (e : ListEntry) : Bool := e.flags.getLsbD 4

/-- NO_RECOVERY. -/
def ListEntry.noRecovery (e : ListEntry) : Bool := e.flags.getLsbD 5

/-- A main entry is bad (R56). -/
def ListEntry.badMain (e : ListEntry) : Bool :=
  (match e.mainOp with
    | none => true
    | some .mark | some .seekFwd | some .seekRev | some .erase => e.count == 0
    | _ => false) || decide (7 < e.budget.toNat)

/-- A recovery entry is bad (R56). -/
def ListEntry.badRecovery (e : ListEntry) : Bool :=
  match e.recoveryOp with
  | none => true
  | some .spaceFwd | some .spaceRev | some .erase => e.count == 0
  | _ => false

/-- The index of the first bad entry, in the order of the check: 0 to 7 for M0 to M7, 8 to 11 for V0
to V3 (R56). -/
def Sequencer.firstBad (q : Sequencer) : Option Nat :=
  ((List.range q.ctl.mainLength).find? (fun n => (q.main n).badMain)).orElse fun _ =>
    ((List.range q.ctl.recLength).find? (fun n => (q.recovery n).badRecovery)).map (8 + ·)

/-! ## Control and status registers -/

/-- SEQCTL's low byte. -/
def SeqCtl.low (c : SeqCtl) : Byte := loByte (c.mainLength + 16 * c.recLength)

/-- SEQCTL's high byte. -/
def SeqCtl.high (c : SeqCtl) : Byte := bitAt 0 c.cycle ||| bitAt 1 c.freezeOnFailure

/-- The settings that a write of SEQCTL stores (R46). -/
def SeqCtl.ofBytes (hi lo : Byte) : SeqCtl :=
  { mainLength := max 1 (min 8 (lo.extractLsb' 0 4).toNat)
    recLength := min 4 (lo.extractLsb' 4 3).toNat
    cycle := hi.getLsbD 0
    freezeOnFailure := hi.getLsbD 1 }

/-- A write of SEQCTL stores a length other than as written (R46). -/
def SeqCtl.clamps (lo : Byte) : Bool :=
  (lo.extractLsb' 0 4).toNat != (SeqCtl.ofBytes 0 lo).mainLength ||
    (lo.extractLsb' 4 3).toNat != (SeqCtl.ofBytes 0 lo).recLength

/-- The waiting indication: 1 HEAD, 2 SLOT, 0 NONE (R58). -/
def Work.waiting : Work → Nat
  | .waitHead => 1
  | .waitSlot => 2
  | _ => 0

/-- SEQSTAT's five bytes (R58, R76). DEDUCED (log entry 42): they show no zone, although the Note beside
R138 names SEQSTAT among the registers that do: R58 and the layout give it no such field. -/
def Sequencer.seqstat (q : Sequencer) : List Byte :=
  [ loByte (q.state.code + 8 * q.stopInd.toNat + 16 * q.work.waiting)
  , loByte (q.cur.val + 8 * ((q.episode.bind (·.cur)).map (·.val)).getD 7 +
      64 * (q.episode.map (fun e => e.kind.code)).getD 0)
  , q.cycle
  , loByte (match q.episode with
      | none => 0
      | some e => (e.slot.map (fun n => n.val + 8)).getD 0 + 16 * e.budget)
  , loByte ((q.episode.map (·.attempts)).getD 0) ]

/-- XPSTAT's three bytes (R150). -/
def State.xpstat (s : State) : List Byte :=
  [ loByte (s.xp.motion.code + 16 * (s.xp.dir == .reverse).toNat + 32 * heldCode s.xp.held)
  , bitAt 0 s.xp.levels.present ||| bitAt 1 s.xp.levels.ready ||| bitAt 2 s.xp.levels.wpermit |||
      bitAt 3 s.xp.levels.bom ||| bitAt 4 s.xp.levels.ew ||| bitAt 5 s.xp.levels.eom |||
      bitAt 6 s.xp.unloadInd ||| bitAt 7 s.xp.lingerTimer.isSome
  , bitAt 0 s.xp.motionLine ||| bitAt 1 s.xp.reverseLine ||| bitAt 2 s.xp.fastLine |||
      bitAt 3 s.xp.unloadLine ||| bitAt 4 s.wch.wgate ||| bitAt 5 s.wch.egate ]

/-- SRDY (R179). -/
def StreamPort.srdy (p : StreamPort) : Bool := p.state == .filling

/-- What the port does with SCLK and SFRM (R168, R173). -/
inductive ClockDrive where
  /-- Inputs from the front end: the port drives neither line. -/
  | input
  /-- Both driven low. -/
  | low
  /-- The pacing sequence: 16 SCLK periods an interval, SFRM high in the first of them. -/
  | pacing
deriving DecidableEq, Repr

/-- SCLK and SFRM by the mode and the port state (R168, R173, R180, R181): inputs in SLAVE mode; in
MASTER mode low while the port is OFF, and the pacing sequence while it is on. -/
def StreamPort.clockDrive (p : StreamPort) : ClockDrive :=
  if !p.master then .input else if p.state = .off then .low else .pacing

/-- The level that the port drives on SFRM at the next rising edge of SCLK in MASTER mode: high at the
first of the interval, the word start (R173). -/
def StreamPort.sfrmOut (p : StreamPort) : Bool := p.clockDrive == .pacing && p.edges == 0

/-- STRCTL as it reads (R169). -/
def StreamPort.strctl (p : StreamPort) : Byte :=
  loByte (p.master.toNat + 2 * p.reserve + 8 * p.srdy.toNat + 16 * p.state.code +
    64 * p.discontinuity.toNat + 128 * p.lossNoted.toNat)

/-- POS byte 0 (R148). -/
def Position.pos0 (p : Position) : Byte := loByte (p.zone.code + 8 * p.block.isSome.toNat)

/-- An optional number as its two bytes show it: FFFFh where it is absent (R66, R148). -/
def orFFFF (n : Option Nat) : Nat := n.getD 65535

/-- POS bytes 1 to 4 (R148). -/
def Position.posRest (p : Position) : List Byte :=
  [ loByte (orFFFF p.file), hiByte (orFFFF p.file), loByte (orFFFF p.block),
    hiByte (orFFFF p.block) ]

/-- CMDSTAT (R186). -/
def HostPort.cmdstatByte (h : HostPort) : Byte := loByte (16 * h.cmdstat.code + h.cmdIndex.toNat)

/-! ## Windows -/

/-- The two-byte fields of a slot record, by the offset of their low byte (Slot record layout). -/
def SlotRecord.field (r : SlotRecord) : Fin 3 → Nat
  | 0 => r.length
  | 1 => r.read.fallback
  | 2 => r.read.errors

/-- A byte of a slot record, its two-byte fields unlatched (Slot record layout). -/
def SlotRecord.byte (r : SlotRecord) (k : Nat) : Byte :=
  match k with
  | 0 => loByte (r.state.code + 8 * sourceCode r.source + 32 * (r.kind == some .mark).toNat +
      64 * r.tag.isSome.toNat)
  | 1 => r.tag.getD 0
  | 2 => loByte r.length
  | 3 => hiByte r.length
  | 4 => loByte (r.discontinuity.toNat + 2 * r.rewritten.toNat + 4 * writeClassCode r.wclass)
  | 5 => loByte (r.read.lrcFail.toNat + 2 * r.read.crcFail.toNat + 4 * r.read.lengthMismatch.toNat +
      8 * r.read.overlength.toNat + 16 * r.read.headerBad.toNat + 32 * readClassCode r.read.cls)
  | 6 => loByte (r.read.sequenceBreak.toNat + 2 * r.read.duplicate.toNat +
      4 * r.read.supersedes.toNat + 8 * r.read.hdrStream.toNat +
      16 * r.read.hdrDiscontinuity.toNat + 32 * r.read.hdrRewritten.toNat)
  | 7 => loByte r.read.fallback
  | 8 => hiByte r.read.fallback
  | 9 => loByte r.read.errors
  | 10 => hiByte r.read.errors
  | _ => 0

/-- A fill slot as the pool summary shows it. DEDUCED (log entry 16): bits 2 to 0 read 0 while there is
none, for which the layout gives bit 7 alone (R43, R188). -/
def fillByte (n : Option SlotNo) : Byte := loByte ((n.map (fun n => n.val + 128)).getD 0)

/-- A half of a queue byte of the pool summary: the slot at a place, or Fh. -/
def queueHalf (q : List SlotNo) (i : Nat) : Nat := ((q[i]?).map (·.val)).getD 15

/-- Two places of a queue in one byte, the earlier in the low half. -/
def queueByte (q : List SlotNo) (j : Nat) : Byte :=
  loByte (queueHalf q (2 * j) + 16 * queueHalf q (2 * j + 1))

/-- The held set, one bit a slot. -/
def Pool.heldByte (p : Pool) : Byte :=
  loByte ((allSlots.map (fun n => if (p.get n).state = .held then 2 ^ n.val else 0)).sum)

/-- A byte of the pool summary (R43). -/
def Pool.summary (p : Pool) (k : Nat) : Byte :=
  match k with
  | 0 => loByte p.freeCount
  | 1 => fillByte p.hostFill
  | 2 => fillByte p.streamFill
  | 3 => loByte p.writeQ.length
  | 4 => queueByte p.writeQ 0
  | 5 => queueByte p.writeQ 1
  | 6 => queueByte p.writeQ 2
  | 7 => queueByte p.writeQ 3
  | 8 => loByte p.readQ.length
  | 9 => queueByte p.readQ 0
  | 10 => queueByte p.readQ 1
  | 11 => queueByte p.readQ 2
  | 12 => queueByte p.readQ 3
  | 13 => p.heldByte
  | _ => 0

/-- A byte of a result entry, its two-byte fields unlatched (R66). -/
def Result.byte (r : Result) (k : Nat) : Byte :=
  match k with
  | 0 => loByte (r.index.val + 8 * r.file.isSome.toNat + 16 * r.block.isSome.toNat +
      32 * r.record.marginalSeen.toNat + 64 * r.record.ewPassed.toNat +
      128 * r.record.recoveredSeen.toNat)
  | 1 => r.op
  | 2 => r.outcome.code
  | 3 => loByte r.record.unitsDone
  | 4 => loByte r.record.skipped
  | 5 => loByte r.record.retries
  | 6 => loByte r.record.dropped
  | 7 => r.cycle
  | 8 => loByte (orFFFF r.file)
  | 9 => hiByte (orFFFF r.file)
  | 10 => loByte (orFFFF r.block)
  | 11 => hiByte (orFFFF r.block)
  | _ => 0

/-- The row check bit of a row. -/
def rowCheck (r : Row) : Nat := (r.getLsbD 8).toNat

/-- The capture record's first byte, and its other six (R106, R132). The record that has not been
filled reads as zeros (R188). -/
def captureBytes : Option Capture → Byte × List Byte
  | none => (0, [0, 0, 0, 0, 0, 0])
  | some c =>
    ( loByte (1 + 2 * c.kind.code + (c.slot.map (fun n => 8 + 16 * n.val)).getD 0 +
        128 * c.expected.isSome.toNat)
    , [ loByte (captureClassCode c.cls + 8 * rowCheck (c.expected.getD 0) + 16 * rowCheck c.strict +
          32 * rowCheck c.lenient)
      , loByte c.index, hiByte c.index, rowByte (c.expected.getD 0), rowByte c.strict,
        rowByte c.lenient ] )

end Sys2Proof.Machine
end

