-- ==== Sys2Proof/Machine/ReadChannel.lean ====
section
/-! DEFINITION. The read channel: frame selection, the course of a burst, forward assembly and its
judgment, the tag test, the blank timer and the capture record on reading (R116 to R132). What a
detection does to the running unit stands in Detection. -/

namespace Sys2Proof.Machine

/-! ## Selection (R120) -/

/-- The frame selected from a strict and a lenient row. -/
def selectFrame (strict lenient : Row) : WinRow :=
  if rowPasses strict then { strict, lenient, frame := strict, finding := .sound }
  else if rowPasses lenient then { strict, lenient, frame := lenient, finding := .fallback }
  else { strict, lenient, frame := lenient, finding := .error }

/-! ## The burst (R117) -/

/-- The burst is confirmed: its pattern was recognised and at least 7 rows have followed it. -/
def ReadChannel.confirmed (r : ReadChannel) : Bool :=
  r.phase == .body && decide (Config.confirmRows ≤ r.rowsAfter)

/-- The candidate kind of a confirmed burst. -/
def ReadChannel.confirmedKind (r : ReadChannel) : Option BlockKind :=
  if r.confirmed then r.cand else none

/-- The kind of the cut block whose remainder the first burst in direction `d` is (R119). -/
def ReadChannel.remainder (r : ReadChannel) (d : Dir) : Option BlockKind :=
  match r.straddle with
  | some (k, d') => if d' = d then none else some k
  | none => none

/-- No burst in progress: SILENT, with the assembly record cleared and no target slot. -/
def ReadChannel.quiet (r : ReadChannel) : ReadChannel :=
  { r with phase := .silent, cand := none, patRows := [], rowsAfter := 0, silentRows := [],
           window := [], asm := .clear, eligible := false, target := none }

/-- Replace the assembly record. -/
def State.setAsm (a : Assembly) (s : State) : State := s.setRch { s.rch with asm := a }

/-- The slot that a READ unit or a read re-attempt holds (R125). -/
def State.readTarget (s : State) : Option SlotNo :=
  match s.seq.work with
  | .read n => some n
  | _ => none

/-- The slot's record returns to its values at the claim (R21). -/
def State.resetClaim (n : SlotNo) (s : State) : State := s.editSlot n (fun _ => .claimed)

/-- Storing stops: no slot is the burst's target any more, and the burst in progress cannot become
one's (R125, R133). -/
def State.dropTarget (s : State) : State :=
  s.setRch { s.rch with target := none, eligible := false }

/-- The frame period in use is taken from the timing table (R2, R116). -/
def State.takeFramePeriod (s : State) : State :=
  s.setRch { s.rch with framePeriod := s.xp.timing.frameDiv }

/-! ## The blank timer (R128) -/

/-- The blank timer has a unit to watch for, with the transport RUNNING forward. -/
def State.blankWatched (s : State) : Bool :=
  s.xp.runningForward &&
    (match s.seq.work with
      | .read _ | .space .forward | .seek .forward => true
      | _ => false)

/-- The blank timer stops. -/
def State.stopBlank (s : State) : State := s.setXp { s.xp with blankTimer := none }

/-- The blank timer starts from the full window where it has a unit to watch for, and is stopped
otherwise. -/
def State.startBlank (s : State) : State :=
  if s.blankWatched then s.setXp { s.xp with blankTimer := some s.xp.timing.blankWindow }
  else s.stopBlank

/-! ## The capture record on reading (R132) -/

/-- Fill the capture record from a row of the block assembled into slot `n`. -/
def State.captureRead (n : SlotNo) (index : Nat) (rows : Row × Row) (cls : Option CaptureClass)
    (s : State) : State :=
  s.setCapture (some
    { kind := .read, slot := some n, index := index, expected := none, strict := rows.1,
      lenient := rows.2, cls := cls })

/-- The first fallback or error frame of a block being assembled fills the record. -/
def State.captureFrame (w : WinRow) (s : State) : State :=
  match s.rch.target with
  | none => s
  | some n =>
    if w.finding = .sound ∨ s.rch.asm.captureTaken = true ∨ s.seq.state = .frozen then s
    else (s.captureRead n (Config.patternFrames + s.rch.asm.committed) (w.strict, w.lenient) none).setAsm
      { s.rch.asm with captureTaken := true }

/-! ## Committing body frames (R121) -/

/-- The counts of a committed body frame, and the row at frame index 6 (R120, R132). -/
def Assembly.count (a : Assembly) (w : WinRow) : Assembly :=
  { a with
    committed := a.committed + 1
    fallback := if w.finding = .fallback then a.fallback + 1 else a.fallback
    errors := if w.finding = .error then a.errors + 1 else a.errors
    firstRow := if a.committed = 0 then (w.strict, w.lenient) else a.firstRow }

/-- The running checks over one more header or data byte (R7, R8). -/
def Assembly.check (a : Assembly) (b : Byte) : Assembly :=
  { a with lrc := a.lrc ^^^ b, crc := crcByte a.crc b }

/-- A header or data frame is committed: the first four are the header, the others data, which go to
the target slot. -/
def State.commitFrame (w : WinRow) (s : State) : State :=
  let s := s.captureFrame w
  let a := s.rch.asm
  let b := rowByte w.frame
  if a.committed < 4 then
    s.setAsm (((({ a with
      header := a.header ++ [b]
      headerError := a.headerError || w.finding == .error } : Assembly).count w).check b))
  else
    let s := s.setAsm ((a.count w).check b)
    match s.rch.target with
    | none => s
    | some n => s.setPool (s.pool.append n b)

/-- A check-group frame is committed: it is counted as a body frame and enters neither check. -/
def State.commitCheck (w : WinRow) (s : State) : State :=
  let s := s.captureFrame w
  s.setAsm (s.rch.asm.count w)

/-- One more row after the pattern in forward motion: it enters the row window, and the row that
leaves the window is committed. The 1,038th marks the burst OVERLENGTH; the rows after it are
discarded. -/
def State.bodyRow (strict lenient : Row) (s : State) : State :=
  if s.rch.asm.overlength then s
  else
    let win := s.rch.window ++ [selectFrame strict lenient]
    let n := s.rch.rowsAfter + 1
    let s := s.setRch { s.rch with rowsAfter := n, window := win }
    if win.length ≤ Config.windowRows then s
    else
      let s := (s.setRch { s.rch with window := win.drop 1 })
      let s := (win.take 1).foldl (fun s w => s.commitFrame w) s
      if n < Config.overlengthRow then s
      else
        let win := s.rch.window
        let s := (win.take 2).foldl (fun s w => s.commitFrame w) s
        let row := ((win.drop 2).head?.map (fun w => (w.strict, w.lenient))).getD (0, 0)
        (s.setRch { s.rch with window := [] }).setAsm
          { s.rch.asm with overlength := true, overRow := row }

/-! ## Judging a forward block (R122 to R124, R130) -/

/-- The window settled at the end of a burst by silence: the rows before the newest six are body
frames, the last three of them the check group where the body has at least 7 frames (R121). Answers
the check-group rows. -/
def State.settleWindow (s : State) : State × List WinRow :=
  let win := s.rch.window
  let rows := win.take (win.length - Config.patternFrames)
  if Config.confirmRows ≤ s.rch.rowsAfter - Config.patternFrames ∧ s.rch.asm.overlength = false then
    (rows.foldl (fun s w => s.commitCheck w) s, rows)
  else (rows.foldl (fun s w => s.commitFrame w) s, [])

/-- What the end of a body shows (R122): the header where it is readable, and the check flags. -/
structure Judgment where
  header : Option Header
  headerBad : Bool
  lengthMismatch : Bool
  lrcFail : Bool
  crcFail : Bool
deriving DecidableEq, Repr

/-- The judgment of a body, from its assembly record and its check-group bytes (R6, R122). -/
def judge (a : Assembly) (check : List Byte) : Judgment :=
  let hdr := Header.ofList a.header
  let short := decide (a.committed < Config.confirmRows)
  let bad := short || a.headerError ||
    (match hdr with
      | some h => h.kind == .mark
      | none => true)
  let tested := !short && !a.overlength
  { header := if bad then none else hdr
    headerBad := bad
    lengthMismatch := tested && !bad &&
      (match hdr with
        | some h => decide (h.length < 1 ∨ Config.slotBytes < h.length ∨
            h.length ≠ a.committed - Config.confirmRows)
        | none => false)
    lrcFail := tested && check[0]? != some a.lrc
    crcFail := tested && (check[1]? != some (crcHi a.crc) || check[2]? != some (crcLo a.crc)) }

/-- The class of a DATA block (R123). -/
def classify (a : Assembly) (j : Judgment) : ReadClass :=
  if 0 < a.errors || j.lrcFail || j.crcFail || j.lengthMismatch || a.overlength || j.headerBad then
    .damaged
  else if 0 < a.fallback then .marginal
  else .clean

/-- The tag test of a block against the memory (R130). A block with HEADER_BAD is untested. -/
def tagTest (mem : Option Byte) (h : Option Header) : TagFinding :=
  match h, mem with
  | some h, some m =>
    if m = h.tag then .duplicate else if m + 1 = h.tag then .inSequence else .seqBreak
  | _, _ => .untested

/-- The tag memory after a DATA block: its tag where the header is readable (R129, R130). -/
def tagAfterData (mem : Option Byte) (h : Option Header) : Option Byte :=
  match h with
  | some h => some h.tag
  | none => mem

/-- The tag of a file mark where it is usable (R124). -/
def usableMarkTag (a : Assembly) (check : List Byte) : Option Byte :=
  match Header.ofList a.header with
  | some h =>
    if a.committed = Config.confirmRows ∧ a.overlength = false ∧ a.headerError = false ∧
        h.kind = .mark ∧ h.length = 0 ∧
        check = [a.lrc, crcHi a.crc, crcLo a.crc] then some h.tag
    else none
  | none => none

/-- The read status of a block at its end, before delivery (R122, R123, R130). -/
def readStatus (a : Assembly) (j : Judgment) (mem : Option Byte) : ReadStatus :=
  { ReadStatus.clear with
    fallback := a.fallback
    errors := a.errors
    lrcFail := j.lrcFail
    crcFail := j.crcFail
    lengthMismatch := j.lengthMismatch
    overlength := a.overlength
    headerBad := j.headerBad
    hdrStream := (j.header.map (·.stream)).getD false
    hdrDiscontinuity := (j.header.map (·.discontinuity)).getD false
    hdrRewritten := (j.header.map (·.rewritten)).getD false
    cls := some (classify a j)
    finding := tagTest mem j.header }

/-- The capture class of a read class. -/
def ReadClass.captured : ReadClass → Option CaptureClass
  | .clean => none
  | .marginal => some .marginal
  | .damaged => some .damaged

/-- The capture record at the classification of a block assembled into slot `n` (R132): its class is
set, and a DAMAGED block that has not filled it fills it now. -/
def State.captureClass (n : SlotNo) (c : ReadClass) (check : List WinRow) (s : State) : State :=
  let a := s.rch.asm
  if s.seq.state = .frozen then s
  else if a.captureTaken then
    match s.capture with
    | none => s
    | some r => s.setCapture (some { r with cls := c.captured })
  else if c = .damaged then
    if a.overlength then s.captureRead n 1037 a.overRow c.captured
    else
      match check with
      | w :: _ =>
        s.captureRead n (Config.patternFrames + (a.committed - 3)) (w.strict, w.lenient) c.captured
      | [] => s.captureRead n Config.patternFrames a.firstRow c.captured
  else s

/-- What a detected block or mark is to the running unit. -/
structure Found where
  kind : BlockKind
  dir : Dir
  /-- The slot that the block was assembled into whole, with its class. -/
  stored : Option (SlotNo × ReadClass)
  /-- The target slot of a burst that was cut: a READ unit gives it back (R118). -/
  givenBack : Option SlotNo
deriving DecidableEq, Repr

/-- Steps 1 to 3 of R126 for a DATA block that ended by silence. -/
def State.judgeData (s : State) : State × Found :=
  let (s, rows) := s.settleWindow
  let a := s.rch.asm
  let j := judge a (rows.map (fun w => rowByte w.frame))
  let c := classify a j
  let mem := s.rch.tagMem
  let s := s.setRch { s.rch with tagMem := tagAfterData mem j.header }
  match s.rch.target with
  | none => (s, { kind := .data, dir := .forward, stored := none, givenBack := none })
  | some n =>
    let s := s.editSlot n (fun r =>
      { r with tag := j.header.map (·.tag), read := readStatus a j mem })
    (s.captureClass n c rows,
      { kind := .data, dir := .forward, stored := some (n, c), givenBack := none })

/-- Steps 1 and 2 of R126 for a file mark that ended by silence. -/
def State.judgeMark (s : State) : State × Found :=
  let (s, rows) := s.settleWindow
  (s.setRch { s.rch with tagMem := usableMarkTag s.rch.asm (rows.map (fun w => rowByte w.frame)) },
    { kind := .mark, dir := .forward, stored := none, givenBack := none })

/-! ## The end of a burst (R118, R119) -/

/-- How a burst ends: by silence (R12), by a stop (R118), or by the write channel leaving IDLE
(R116). -/
inductive BurstEnd where
  | silence | cut | write
deriving DecidableEq, Repr

/-- A burst ends as noise: a target slot's record returns to its values at the claim, and the slot
remains with the unit (R14, R21, R118). -/
def State.endNoise (s : State) : State :=
  let s := match s.rch.target with
    | none => s
    | some n => s.resetClaim n
  s.setRch { s.rch.quiet with straddle := none }

/-- A burst is detected without a whole assembly: cut, in reverse, or a straddled remainder. The record
of the target slot of a remainder that ends by silence returns to its values at the claim (R21). That of
a cut burst's stays as it stands, to go with the slot as R30 and R83 give (log entry 12). A forward mark
that ends by silence without a readable tag empties the tag memory (R124, R129). -/
def State.detectBare (how : BurstEnd) (k : BlockKind) (d : Dir) (s : State) : State × Found :=
  let bare := fun n => { kind := k, dir := d, stored := none, givenBack := n : Found }
  if how = .silence then
    let s := match s.rch.target with
      | none => s
      | some n => s.resetClaim n
    (if d = .forward ∧ k = .mark then s.forgetTags else s, bare none)
  else (s, bare s.rch.target)

/-- What ends by silence whole in forward motion is judged from its rows; every other detection is
bare (R118, R119, R126, R127). -/
def State.judgeBurst (how : BurstEnd) (k : BlockKind) (d : Dir) (s : State) : State × Found :=
  if how = .silence ∧ d = .forward ∧ s.rch.confirmedKind = some k then
    match k with
    | .data => s.judgeData
    | .mark => s.judgeMark
  else s.detectBare how k d

/-- The burst in progress ends. A confirmed burst, and the remainder of a cut block, is detected: it is
judged, reported to the position tracker, and answered with what the running unit is to be told
(R118, R119, R126, R127). DEDUCED (log entry 13): the remainder is detected also where the write channel's
leaving IDLE ends it unconfirmed (R116). -/
def State.endBurst (how : BurstEnd) (s : State) : State × Option Found :=
  let d := s.xp.dir
  let confirmed := s.rch.confirmedKind
  match (s.rch.remainder d).orElse (fun _ => confirmed) with
  | none => (s.endNoise, none)
  | some k =>
    let (s', found) := s.judgeBurst how k d
    let straddle := if how = .cut ∧ confirmed.isSome then some (k, d) else none
    let s' := s'.setRch { s'.rch.quiet with straddle := straddle }
    let s' := s'.onPos (Position.detected d k)
    (if confirmed.isSome then s'.startBlank else s', some found)

/-- A burst is in progress at the read channel. -/
def State.inBurst (s : State) : Bool := s.rch.phase != .silent

/-! ## Taking rows (R12, R13, R116) -/

/-- The sixth row of a burst shows its pattern. A DATA burst is assembled into the slot that the READ
unit or the re-attempt has held since before the burst began (R125, R134); a re-attempt's record then
returns to its values at the claim (R86). DEDUCED (log entries 14 and 47): a burst that begins in a ramp
is stored all the same where the unit or the re-attempt holds its slot by then. -/
def State.recognised (s : State) : State :=
  match recognise s.rch.patRows with
  | none => s.setRch { s.rch with phase := .passing }
  | some k =>
    let s := s.setRch { s.rch with phase := .body, cand := some k }
    match s.readTarget with
    | none => s
    | some n =>
      if k = .data ∧ s.xp.dir = .forward ∧ s.rch.eligible = true then
        (s.resetClaim n).setRch { s.rch with target := some n }
      else s

/-- One more row of the burst in progress. -/
def State.burstRow (s : State) (row : Row × Row) : State :=
  match s.rch.phase with
  | .silent | .passing => s
  | .pattern =>
    let s := s.setRch { s.rch with patRows := s.rch.patRows ++ [row.2] }
    if s.rch.patRows.length < Config.patternFrames then s else s.recognised
  | .body =>
    let before := s.rch.confirmed
    let s := match s.xp.dir with
      | .forward => s.bodyRow row.1 row.2
      | .reverse =>
        s.setRch { s.rch with rowsAfter := min (s.rch.rowsAfter + 1) Config.overlengthRow }
    if !before && s.rch.confirmed then s.stopBlank else s

/-- The first active row after silence begins a burst. READ_SILENCE is read then (R152). DEDUCED
(log entries 14 and 47): the burst may be stored where a unit or a re-attempt holds its slot at this row,
in a ramp as in RUNNING (R125). -/
def State.beginBurst (s : State) : State :=
  s.setRch { s.rch.quiet with
    phase := .pattern
    silence := s.xp.timing.readSilence
    eligible := s.readTarget.isSome }

/-- The rows of a silent run shorter than READ_SILENCE are rows of the burst (R12). -/
def State.keepSilentRows (s : State) : State :=
  s.rch.silentRows.foldl State.burstRow (s.setRch { s.rch with silentRows := [] })

/-- The rows of a silent run that a stop or the write channel cuts short count as rows of the burst
(R12), and so may confirm it. They are not assembled: no byte is stored and the capture record stays
(R118, R132). DEDUCED (log entry 11). -/
def State.countSilentRows (s : State) : State :=
  let t := s.dropTarget.keepSilentRows
  t.setRch { t.rch with target := s.rch.target, eligible := s.rch.eligible }

/-- The tape comes to rest or its lines are released: a burst in progress is cut (R118). DEDUCED (log
entry 46): the cut does not take back what the burst's frames had filled in the capture record. -/
def State.cutBurst (s : State) : State × Option Found :=
  if s.inBurst then s.countSilentRows.endBurst .cut else (s, none)

/-- The write channel leaves IDLE: a burst in progress ends, and passes the unit that is running
(R116). -/
def State.endBurstAtWrite (s : State) : State :=
  if s.inBurst then (s.countSilentRows.endBurst .write).1 else s

/-- A row taken at the read channel. Answers what was detected, if the row ended a burst. -/
def State.takeRow (strict lenient : Row) (s : State) : State × Option Found :=
  if lenient = silentRow then
    if s.inBurst then
      let rows := s.rch.silentRows ++ [(strict, lenient)]
      if rows.length < s.rch.silence.toNat then
        (s.setRch { s.rch with silentRows := rows }, none)
      else s.endBurst .silence
    else (s, none)
  else
    let s := if s.inBurst then s.keepSilentRows else s.beginBurst
    (s.burstRow (strict, lenient), none)

/-- The read channel after a soft reset: as after a pin reset, but for the frame period (R117). -/
def State.resetReadChannel (s : State) : State := s.setRch (.reset s.rch.framePeriod)

end Sys2Proof.Machine
end

