-- ==== Sys2Proof/Machine/WriteChannel.lean ====
section
/-! DEFINITION. The write channel: its phases and gates, the course of a write unit, erasing, and the
read-back verification up to its classification (R96 to R111). What the sequencer does with a class
stands in Sequencer. -/

namespace Sys2Proof.Machine

/-! ## Gates and phases -/

/-- Turn the erase gate on, under the conditions of R97. -/
def State.eraseOn (s : State) : State :=
  if s.mayGate then s.setWch { s.wch with egate := true } else s

/-- The channel returns to IDLE with both gates off and nothing in progress (R113, R115). -/
def State.channelIdle (s : State) : State := s.setWch .reset

/-- The channel holds work that waits (R98, R111). -/
def State.holdWork (h : WHeld) (s : State) : State := s.setWch { s.wch with held := some h }

/-! ## Opening a block (R100) -/

/-- The header of a unit's block (R5, R100). A mark shows neither STREAM nor DISCONTINUITY. -/
def State.unitHeader (s : State) (u : WUnit) : Header :=
  match u.target with
  | .markUnit =>
    { kind := .mark, stream := false, discontinuity := false, rewritten := u.reattempt,
      tag := u.tag.getD 0, length := 0 }
  | .slot n =>
    let r := s.slot n
    let data := u.kind == .data
    { kind := u.kind
      stream := data && r.source == some .stream
      discontinuity := data && r.discontinuity
      rewritten := r.rewritten
      tag := u.tag.getD 0
      length := if data then r.length else 0 }

/-- The bytes of a unit's data section (R3). -/
def State.unitData (s : State) (u : WUnit) : List Byte :=
  match u.target, u.kind with
  | .slot n, .data => s.pool.bytes n
  | _, _ => []

/-- The mark of a MARK unit takes its tag as its write gate turns on, unless it is a re-attempt's
(R25, R100, R110). -/
def State.takeMarkTag (u : WUnit) (s : State) : State × WUnit :=
  if u.target = .markUnit ∧ u.tag = none then
    (s.setPool { s.pool with tag := s.pool.tag + 1 }, { u with tag := some s.pool.tag })
  else (s, u)

/-- REWRITTEN is set on the slot as a re-attempt begins to write it (R20, R85). DEDUCED (log entry 41):
that is the event in which its block opens and the write gate turns on. -/
def State.markRewritten (u : WUnit) (s : State) : State :=
  match u.target with
  | .slot n => if u.reattempt then s.editSlot n (fun r => { r with rewritten := true }) else s
  | .markUnit => s

/-- The verify record of a block that begins to be written (R100, R103). -/
def Verify.ofFrames (frames : List Row) : Verify :=
  { frames := frames, written := 0, watch := .unopened, compared := 0, lastSilent := false,
    silentRun := 0, silence := 0, weak := false, bad := false, captureTaken := false }

/-- The block of the channel's unit opens: the channel enters BLOCK and the write gate turns on
(R97, R99, R100). -/
def State.openBlock (s : State) : State :=
  match s.wch.unit with
  | none => s
  | some u =>
    if s.mayGate then
      let (s, u) := s.takeMarkTag u
      let s := s.markRewritten u
      let frames := blockFrames (s.unitHeader u) (s.unitData u)
      s.setWch { s.wch with
        phase := .block
        unit := some u
        checkWritten := false
        wgate := true
        gapTimer := .stopped
        watchTimer := if u.verify then some s.xp.timing.verifyLag else none
        deadline := none
        verify := some (.ofFrames frames) }
    else s

/-! ## Gaps (R98, R99) -/

/-- The unit's gap begins with the erase gate's turning on (R98, cases 2 and 3). -/
def State.freshGap (u : WUnit) (s : State) : State :=
  let s := s.endBurstAtWrite
  (s.setWch { WriteChannel.reset with
    phase := .gap, unit := some u, gapTimer := .running s.xp.timing.writeGap }).eraseOn

/-- The unit's gap continues the erase in progress, its gap timer the one that started at the end of
the postamble (R98, case 1). A timer that has run out opens the block at once (R99). -/
def State.continueGap (u : WUnit) (s : State) : State :=
  let s := s.setWch { s.wch with
    phase := .gap, unit := some u, held := none, checkWritten := false, wgate := false,
    verify := none }
  if s.wch.gapTimer = .ranOut then s.openBlock else s

/-- A unit begins that does not continue an erase: in GAP at once where the transport is RUNNING
forward, and otherwise held in IDLE until it is (R98, cases 2 and 3). -/
def State.gapOrWait (u : WUnit) (s : State) : State :=
  if s.xp.runningForward then s.freshGap u else s.channelIdle.holdWork (.write u)

/-- A unit takes its place at the channel (R98). DEDUCED (log entry 37): a unit that begins in AFTER with
the run indication clear takes a fresh gap, or waits for one, as from IDLE. -/
def State.placeUnit (u : WUnit) (s : State) : State :=
  match s.wch.phase with
  | .block => s.holdWork (.write u)
  | .after => if s.wch.run then s.continueGap u else s.gapOrWait u
  | .idle | .gap | .erasing => s.gapOrWait u

/-! ## Erasing (R111) -/

/-- Enter ERASING: the erase timer starts, and the tracker takes the erasing-begun report (R111, R144).
DEDUCED (log entry 48): an ERASE unit that waits, for RUNNING or for the end of a postamble, is reported
as it enters ERASING and not as it begins to wait. -/
def State.startErasing (s : State) : State :=
  let s := s.setWch { s.wch with
    phase := .erasing, unit := none, held := none, checkWritten := false, wgate := false,
    gapTimer := .stopped, eraseTimer := some s.xp.timing.eraseLength, watchTimer := none, deadline := none,
    verify := none }
  (s.eraseOn).onPos .erasingBegun

/-- An ERASE unit enters ERASING at once where the transport is RUNNING forward, and otherwise waits
in IDLE until it is. DEDUCED (log entry 38): a burst that the channel ends as it leaves IDLE is taken
before the start of the erase is reported. -/
def State.eraseOrWait (s : State) : State :=
  if s.xp.runningForward then (s.endBurstAtWrite).startErasing else s.channelIdle.holdWork .erase

/-- An ERASE unit takes its place at the channel (R111), in AFTER with the run indication clear as from
IDLE (log entry 37). -/
def State.placeErase (s : State) : State :=
  match s.wch.phase with
  | .block => s.holdWork .erase
  | .after => if s.wch.run then s.startErasing else s.channelIdle.eraseOrWait
  | .erasing => s.startErasing
  | .idle | .gap => s.eraseOrWait

/-! ## Beginning work at the channel -/

/-- A write unit begins: it takes its frame period, asks for forward motion and takes its place at
the channel (R98). -/
def State.beginWriteUnit (u : WUnit) (s : State) : State × Reply :=
  let s := s.takeFramePeriod
  let (s, r) := s.requestDir .forward
  match r with
  | .refused o => (s, .refused o)
  | _ => (s.placeUnit { u with framePeriod := s.xp.timing.frameDiv }, .taken)

/-- An ERASE unit begins: it asks for forward motion and takes its place at the channel (R111). -/
def State.beginEraseUnit (s : State) : State × Reply :=
  let s := s.takeFramePeriod
  let (s, r) := s.requestDir .forward
  match r with
  | .refused o => (s, .refused o)
  | _ => (s.placeErase, .taken)

/-- The unit or the erase has come to its end, and no further work of the channel has begun in the
event: the erase gate turns off and the channel returns to IDLE (R97, R107, R111). -/
def State.settleChannel (s : State) : State :=
  match s.wch.phase with
  | .after => if s.wch.verify = none then s.channelIdle else s
  | .erasing => if s.wch.eraseTimer = none then s.channelIdle else s
  | _ => s

/-! ## The end of a block (R101, R102) -/

/-- The check group has been written: the tracker takes the block or mark (R101). -/
def State.blockOnTape (u : WUnit) (s : State) : State :=
  let s := s.setWch { s.wch with
    checkWritten := true
    verify := s.wch.verify.map (fun v => { v with written := v.frames.length - Config.patternFrames }) }
  s.onPos (Position.forwardReport true u.kind)

/-- The postamble has been written: the write gate turns off, the channel enters AFTER, the gap timer of
a following block starts and the run indication is set. With VERIFY the delay to the deadline starts;
without, there is nothing left to verify (R102, R103). -/
def State.enterAfter (u : WUnit) (s : State) : State :=
  s.setWch { s.wch with
    phase := .after
    wgate := false
    checkWritten := false
    run := s.wch.egate
    gapTimer := .running s.xp.timing.writeGap
    deadline := if u.verify then some (s.xp.timing.verifyLag, s.xp.timing.readSilence) else none
    verify := if u.verify then s.wch.verify.map (fun v => { v with written := v.frames.length })
      else none }

/-- The work that waited for the end of a postamble takes over the channel: its gap or its erase goes on
from there (R98, R102, R111). Where a deferred request has stopped the tape, it waits in IDLE for
RUNNING forward (log entry 8). -/
def State.takeOverAfter (s : State) : State :=
  match s.wch.held with
  | some (.write u) =>
    if s.xp.runningForward then s.continueGap u else s.channelIdle.holdWork (.write u)
  | some .erase =>
    if s.xp.runningForward then s.startErasing else s.channelIdle.holdWork .erase
  | none => s

/-! ## Read-back verification (R103 to R106) -/

/-- The kind of unit that a capture record shows for a write unit (R106). -/
def WUnit.unitKind (u : WUnit) : UnitKind :=
  match u.target with
  | .slot _ => .write
  | .markUnit => .mark

/-- The slot of a write unit. -/
def WUnit.slot (u : WUnit) : Option SlotNo :=
  match u.target with
  | .slot n => some n
  | .markUnit => none

/-- The findings of the verify (R104). -/
inductive VerifyFinding where
  | good | weak | bad
deriving DecidableEq, Repr

/-- The expected frame at an index: the frame written, and beyond the block a silent row (R103). -/
def Verify.expected (v : Verify) (i : Nat) : Row := (v.frames[i]?).getD silentRow

/-- A sensed row judged against the frame expected at an index (R104). -/
def Verify.judgeRow (v : Verify) (i : Nat) (strict lenient : Row) : VerifyFinding :=
  if i < v.frames.length then
    if strict = v.expected i then .good else if lenient = v.expected i then .weak else .bad
  else if lenient = silentRow then .good else .bad

/-- Fill the capture record from the verify of the channel's unit (R106). -/
def State.captureVerify (i : Nat) (strict lenient : Row) (s : State) : State :=
  match s.wch.unit, s.wch.verify with
  | some u, some v =>
    if s.seq.state = .frozen then s
    else
      (s.setCapture (some
        { kind := u.unitKind, slot := u.slot, index := i, expected := some (v.expected i),
          strict := strict, lenient := lenient, cls := none })).setWch
        { s.wch with verify := some { v with captureTaken := true } }
  | _, _ => s

/-- One row compared with the next expected frame. The first non-GOOD frame fills the capture record
(R103, R104, R106). DEDUCED (log entry 36): its frame index is the number of the row, also where an
active row beyond the block is met after silent ones. -/
def State.compareRow (strict lenient : Row) (s : State) : State :=
  match s.wch.verify with
  | none => s
  | some v =>
    let i := v.compared
    let f := v.judgeRow i strict lenient
    let s := if f ≠ .good ∧ v.captureTaken = false then s.captureVerify i strict lenient else s
    s.setWch { s.wch with verify := s.wch.verify.map (fun v =>
      { v with
        compared := i + 1
        weak := v.weak || f == .weak
        bad := v.bad || f == .bad }) }

/-- The silent run after a row: it is counted from a first row sensed after the last postamble frame
was written (R103). -/
def Verify.afterRow (v : Verify) (lenient : Row) : Verify :=
  if lenient = silentRow then
    { v with
      lastSilent := true
      silentRun :=
        if v.lastSilent then (if 0 < v.silentRun then v.silentRun + 1 else 0)
        else if v.written = v.frames.length then 1 else 0 }
  else { v with lastSilent := false, silentRun := 0 }

/-- A row sensed in the verify watch. Answers whether silence has ended the verify burst (R103). -/
def State.verifyRow (strict lenient : Row) (s : State) : State × Bool :=
  match s.wch.verify with
  | none => (s, false)
  | some v =>
    match v.watch with
    | .unopened | .ended => (s, false)
    | .waiting =>
      if lenient = silentRow then (s, false)
      else
        ((s.setWch { s.wch with
            verify := some { v with watch := .sensing, silence := s.xp.timing.readSilence } }).compareRow
          strict lenient, false)
    | .sensing =>
      let s := s.compareRow strict lenient
      let s := s.setWch { s.wch with verify := s.wch.verify.map (·.afterRow lenient) }
      (s, match s.wch.verify with
        | some v => decide (v.silence.toNat ≤ v.silentRun)
        | none => false)

/-- The watch is ENDED. The rows of the last silent run are not rows of the burst, and each missing
frame is compared with a silent row. A watch that never sensed the block fills the capture record
(R103, R104, R106). -/
def State.endWatch (s : State) : State :=
  match s.wch.verify with
  | none => s
  | some v =>
    let sensed := v.watch = .sensing
    let compared := v.compared - v.silentRun
    let missing := compared < v.frames.length
    let s := if missing ∧ v.captureTaken = false then
        s.captureVerify (if sensed then compared else 0) silentRow silentRow
      else s
    s.setWch { s.wch with
      watchTimer := none
      deadline := none
      verify := s.wch.verify.map (fun v =>
        { v with watch := .ended, compared := compared, bad := v.bad || missing }) }

/-- The class of a read-back whose watch has ended (R105). A block that was not sensed has every frame
missing. -/
def Verify.class (v : Verify) : WriteClass :=
  if v.bad || v.compared ≠ v.frames.length then .failed
  else if v.weak then .marginal
  else .clean

/-- The capture class of a write class (R106). -/
def WriteClass.captured : WriteClass → Option CaptureClass
  | .clean => none
  | .marginal => some .marginal
  | .failed => some .failed

/-- The classification's effect at the channel: the slot's write verify class, then the capture record
where it was taken for this block. The verify record is then over (R105, R106). -/
def State.recordClass (u : WUnit) (v : Verify) (s : State) : State :=
  let s := match u.target with
    | .slot n => s.editSlot n (fun r => { r with wclass := some v.class })
    | .markUnit => s
  let s := if v.captureTaken then
      s.setCapture (s.capture.map (fun c => { c with cls := v.class.captured }))
    else s
  s.setWch { s.wch with verify := none, watchTimer := none, deadline := none }

end Sys2Proof.Machine
end

