-- ==== Sys2Proof/Machine/Sequencer.lean ====
section
/-! DEFINITION. The sequencer: how an entry begins, runs its units and ends, its results, the failure
episodes, and how STOP, ABORT and the terminal changes end what runs (R45 to R95). -/

namespace Sys2Proof.Machine

/-! ## Small changes of the sequencer's record -/

/-- The current main entry. -/
def State.entry (s : State) : ListEntry := s.seq.main s.seq.cur.val

/-- Replace the sequencer state. -/
def State.setSeqState (st : SeqState) (s : State) : State := s.setSeq { s.seq with state := st }

/-- Replace the stop indication. -/
def State.setStopInd (b : Bool) (s : State) : State := s.setSeq { s.seq with stopInd := b }

/-- Change the entry record. -/
def State.record (f : EntryRecord → EntryRecord) (s : State) : State :=
  s.setSeq { s.seq with record := f s.seq.record }

/-- Take up a piece of work. The blank timer starts from the full window where it has that work to
watch for, and stops otherwise (R128). -/
def State.setWork (w : Work) (s : State) : State := (s.setSeq { s.seq with work := w }).startBlank

/-- Replace the episode record. -/
def State.setEpisode (e : Option Episode) (s : State) : State :=
  s.setSeq { s.seq with episode := e }

/-- Replace the count of the recovery motion in progress. -/
def State.setRecCount (n : Nat) (s : State) : State := s.setSeq { s.seq with recCount := n }

/-- One more unit done (R47). -/
def EntryRecord.done (r : EntryRecord) : EntryRecord := { r with unitsDone := bump r.unitsDone }

/-- One more unit done by a skip (R47). -/
def EntryRecord.skip (r : EntryRecord) : EntryRecord :=
  { r with unitsDone := bump r.unitsDone, skipped := bump r.skipped }

/-- One more duplicate dropped (R47). -/
def EntryRecord.drop (r : EntryRecord) : EntryRecord := { r with dropped := bump r.dropped }

/-- One more re-attempt (R47). -/
def EntryRecord.retry (r : EntryRecord) : EntryRecord := { r with retries := bump r.retries }

/-- MARGINAL_SEEN where the attempt was MARGINAL (R48, R50, R87). -/
def EntryRecord.marginalIf (b : Bool) (r : EntryRecord) : EntryRecord :=
  { r with marginalSeen := r.marginalSeen || b }

/-- The unit of a recovered episode (R87). -/
def EntryRecord.recovered (marginal : Bool) (r : EntryRecord) : EntryRecord :=
  { (r.done.marginalIf marginal) with recoveredSeen := true }

/-- EW_PASSED (R55). -/
def EntryRecord.ewSeen (r : EntryRecord) : EntryRecord := { r with ewPassed := true }

/-- An entry runs: it has a unit, a wait or an episode that a change can end (R62). -/
def SeqState.entryRuns : SeqState → Bool
  | .running | .stopping | .recovery | .frozen => true
  | _ => false

/-- A unit of an entry runs outside any episode. -/
def SeqState.unitRuns : SeqState → Bool
  | .running | .stopping => true
  | _ => false

/-- What a change of the sequencer leads to: nothing more, or the entry's end with an outcome. -/
abbrev Turn := State × Option EntryOutcome

/-! ## Results (R66, R67, R189) -/

/-- The result of the current entry as it stands (R66). -/
def State.buildResult (o : EntryOutcome) (s : State) : Result :=
  { index := s.seq.cur
    op := s.entry.opcode
    outcome := o
    record := s.seq.record
    cycle := s.seq.cycle
    file := if s.pos.zone = .unknown then none else s.pos.file
    block := if s.pos.zone = .unknown then none else s.pos.block }

/-- The result queue has room (R189). -/
def State.resultRoom (s : State) : Bool := decide (s.host.results.length < Config.resultRoom)

/-- A result joins the result queue at the tail. RESPTR returns to 0 where it becomes the head (R188,
R189). -/
def State.joinResult (r : Result) (s : State) : State :=
  (s.setHost { s.host with
    results := s.host.results ++ [r]
    resptr := if s.host.results = [] then 0 else s.host.resptr }).raise .resultPosted

/-- Replace the pending result. -/
def State.setPending (r : Option Result) (s : State) : State :=
  s.setSeq { s.seq with pendingResult := r }

/-- A post finds the queue full: the result stays pending (R67, R72). -/
def State.stallResult (r : Result) (s : State) : State := (s.setPending (some r)).raise .resultStall

/-! ## The end of a list (R65) -/

/-- The list ends with a cause. The transport is asked to stop where it moves by a ramp or runs, which
drops a request that it holds (R65, R155). -/
def State.listEnd (c : EndCause) (s : State) : State :=
  let s := s.setSeq { s.seq with state := .idle, episode := none, endCause := c }
  let s := (s.setWork .none).raise .listEnded
  if s.xp.ramping then s.requestStop else s

/-- What follows the post of a result with an outcome (R64). The truth value says that an entry now
begins. DEDUCED (log entry 33): a short outcome with HALT_ON_SHORT gives COMPLETED by step 4 also while
the stop indication is set. -/
def State.goOn (o : EntryOutcome) (s : State) : State × Bool :=
  let e := s.entry
  let last := decide (s.seq.ctl.mainLength ≤ s.seq.cur.val + 1)
  if o.terminal then (s.listEnd .terminal, false)
  else if o = .stopped then (s.listEnd .stopped, false)
  else if o.short && e.haltOnShort then (s.listEnd .completed, false)
  else if o = .done && last && !s.seq.ctl.cycle then (s.listEnd .completed, false)
  else if s.seq.stopInd then (s.listEnd .stopped, false)
  else if !last then (s.setSeq { s.seq with cur := s.seq.cur + 1 }, true)
  else if !s.seq.ctl.cycle then (s.listEnd .completed, false)
  else (s.setSeq { s.seq with cur := 0, cycle := s.seq.cycle + 1 }, true)

/-- The current entry ends with an outcome: its result is built and posted, or waits in POST_WAIT with
the idle report sent (R66, R67, R158). The truth value says that an entry now begins. -/
def State.settleEntry (o : EntryOutcome) (s : State) : State × Bool :=
  let r := s.buildResult o
  let s := (s.setEpisode none).setWork .none
  if s.resultRoom then (s.joinResult r).goOn o
  else (((s.setSeqState .postWait).stallResult r).idleReport, false)

/-! ## Units (R48 to R54, R60) -/

/-- Checks 3 and 4 of R59, which come before each unit of a WRITE, MARK or ERASE entry (R60). -/
def State.writeCheck (s : State) : Option EntryOutcome :=
  if !s.xp.levels.wpermit then some .writeProtected
  else if s.pos.zone = .unknown then some .positionUnknown
  else none

/-- The slot of the current unit, outside an episode, when the unit is dropped: a write slot returns to
the head of the write queue, a read slot becomes FREE (R28, R30). -/
def State.dropUnit (s : State) : State :=
  match s.seq.work with
  | .writeSlot n => s.setPool (s.pool.headReturn n)
  | .read n => s.freeActive n
  | _ => s

/-- What the transport's answer means to a unit that has just begun. -/
def State.afterRequest (r : Reply) (s : State) : Turn :=
  match r with
  | .taken => (s, none)
  | .done => (s, some .done)
  | .refused o => (s.dropUnit, some o)

/-- The write unit of a slot. -/
def State.slotUnit (s : State) (n : SlotNo) (reattempt : Bool) : WUnit :=
  { target := .slot n
    kind := (s.slot n).kind.getD .data
    tag := (s.slot n).tag
    reattempt := reattempt
    verify := s.entry.verify
    framePeriod := s.xp.timing.frameDiv }

/-- The write unit of a mark of a MARK entry. -/
def State.markUnit (s : State) (tag : Option Byte) (reattempt : Bool) : WUnit :=
  { target := .markUnit
    kind := .mark
    tag := tag
    reattempt := reattempt
    verify := s.entry.verify
    framePeriod := s.xp.timing.frameDiv }

/-- A WRITE unit begins: it takes the head of the write queue, or waits for one (R26, R48, R158). -/
def State.beginWrite (s : State) : Turn :=
  match s.pool.writeQ with
  | [] => ((s.setWork .waitHead).idleReport, none)
  | n :: _ =>
    let s := (s.setPool s.pool.takeHead).setWork (.writeSlot n)
    let (s, r) := s.beginWriteUnit (s.slotUnit n false)
    s.afterRequest r

/-- A MARK unit begins (R49). -/
def State.beginMark (s : State) : Turn :=
  let s := s.setWork .writeMark
  let (s, r) := s.beginWriteUnit (s.markUnit none false)
  s.afterRequest r

/-- A READ unit that holds its slot asks for forward motion (R50, R134). -/
def State.readGoesOn (n : SlotNo) (s : State) : Turn :=
  let s := (s.takeFramePeriod).setWork (.read n)
  let (s, r) := s.requestDir .forward
  s.afterRequest r

/-- The read claim is granted a slot (R21, R22). A burst in progress is not assembled into it (R125). -/
def State.grantClaim (n : SlotNo) (s : State) : State :=
  (s.setPool (s.pool.grantRead n)).dropTarget

/-- A READ unit without a slot asks for forward motion as it begins, and then waits for its claim, the
idle report sent (R29, R134, R158). -/
def State.awaitClaim (s : State) : Turn :=
  let s := (s.takeFramePeriod).setWork .waitSlot
  let (s, r) := s.requestDir .forward
  match r with
  | .refused o => (s, some o)
  | _ => (s.idleReport, none)

/-- A READ unit begins: its claim is granted, or it waits (R29, R50, R134). -/
def State.beginRead (s : State) : Turn :=
  match s.pool.lowestFree with
  | none => s.awaitClaim
  | some n => (s.grantClaim n).readGoesOn n

/-- A SPACE or SEEK unit begins (R51, R52). -/
def State.beginPass (w : Work) (d : Dir) (s : State) : Turn :=
  let s := (s.takeFramePeriod).setWork w
  let (s, r) := s.requestDir d
  s.afterRequest r

/-- An ERASE unit begins (R53). -/
def State.beginErase (s : State) : Turn :=
  let s := s.setWork .erase
  let (s, r) := s.beginEraseUnit
  s.afterRequest r

/-- A REWIND begins. With the BOM level present as the entry begins it is done without motion, a
transport in FAULT then entering STOPPED (R54, R136, R160). -/
def State.beginRewind (s : State) : Turn :=
  if s.xp.levels.bom then
    let s := if s.xp.motion = .fault then s.enterMotion .stopped s.xp.dir false else s
    (s.onPos .bomReached, some .done)
  else
    let s := s.setWork .rewind
    let (s, r) := s.requestRewind
    s.afterRequest r

/-- An UNLOAD begins (R54, R161). -/
def State.beginUnload (s : State) : Turn :=
  let s := s.setWork .unload
  let (s, r) := s.requestUnload
  s.afterRequest r

/-- The checks 3 to 5 of R59, which the sequencer makes before every entry and every unit: WPERMIT and
the zone for an entry that writes (R60), and the EOM level for one that moves forward (R156). The BOM
level is checked by the request that a reverse unit makes at once, since BOM reached comes of that request
(R51, R136). -/
def State.unitCheck (s : State) : Option EntryOutcome :=
  if s.entry.writes && s.writeCheck.isSome then s.writeCheck
  else if s.entry.forward && s.xp.levels.eom then some .eomMet
  else none

/-- The next unit of the current entry begins, after the checks of R60 and R156: a unit that fails one
takes no slot. START lets no entry without an operation run (R56). -/
def State.beginUnit (s : State) : Turn :=
  let s := s.setSeqState .running
  match s.unitCheck, s.entry.mainOp with
  | some o, _ => (s, some o)
  | none, some .write => s.beginWrite
  | none, some .mark => s.beginMark
  | none, some .read => s.beginRead
  | none, some .spaceFwd => s.beginPass (.space .forward) .forward
  | none, some .spaceRev => s.beginPass (.space .reverse) .reverse
  | none, some .seekFwd => s.beginPass (.seek .forward) .forward
  | none, some .seekRev => s.beginPass (.seek .reverse) .reverse
  | none, some .erase => s.beginErase
  | none, some .rewind => s.beginRewind
  | none, some .unload => s.beginUnload
  | none, _ => (s, some .done)

/-- A unit of the current entry is over and counted: the entry ends, or its next unit begins (R48 to
R55, R71). -/
def State.unitOver (s : State) : Turn :=
  let s := s.setWork .none
  let e := s.entry
  if e.count ≠ 0 ∧ e.count.toNat ≤ s.seq.record.unitsDone then (s, some .done)
  else if e.stopAtEw && s.seq.record.ewPassed then (s, some .ewMet)
  else if s.seq.stopInd then (s, some .stopped)
  else s.beginUnit

/-- A block was dropped under SUPERSEDE: it is counted as dropped and is not a unit. The same unit goes
on with a new read claim, unless the entry is to stop (R50, R63, R71, R86, R88). DEDUCED (log entry 44):
a READ unit outside an episode whose block is dropped in STOPPING ends its entry STOPPED, uncounted. -/
def State.unitDropped (s : State) : Turn :=
  let s := (s.record .drop).setWork .none
  if s.seq.stopInd then (s, some .stopped) else s.beginUnit

/-! ## Entries (R59) -/

/-- The checks with which an entry begins (R59). -/
def State.entryCheck (s : State) : Option EntryOutcome :=
  let e := s.entry
  match s.xp.motion with
  | .noCartridge | .notReady => some .notReady
  | m =>
    if m = .fault ∧ e.long = false then some .transportFault
    else if m = .fault ∧ s.xp.levels.ready = false then some .notReady
    else if s.unitCheck.isSome then s.unitCheck
    else if e.stopAtEw && s.pos.zone == .pastEw then some .ewMet
    else none

/-- The current entry begins: a fresh entry record, the checks, and its first unit (R47, R59, R60). -/
def State.startEntry (s : State) : Turn :=
  let s := (s.setSeqState .running).record (fun _ => .clear)
  match s.entryCheck with
  | some o => (s, some o)
  | none => s.beginUnit

/-- Entries begin one after another within one event for as long as each ends at once. Each of them but
the first takes a place of the result queue first, so that `entryTurns` of them are enough. -/
def State.runEntries : Nat → State → State
  | 0, s => s
  | k + 1, s =>
    match s.startEntry with
    | (s, none) => s
    | (s, some o) =>
      match s.settleEntry o with
      | (s, false) => s
      | (s, true) => State.runEntries k s

/-- More entries than can end within one event. -/
def entryTurns : Nat := Config.resultRoom + 1

/-- An entry begins where the truth value says so. -/
def State.nextEntry (r : State × Bool) : State :=
  match r with
  | (s, false) => s
  | (s, true) => s.runEntries entryTurns

/-- The current entry ends with an outcome, and the list goes on or ends (R64). -/
def State.endEntry (o : EntryOutcome) (s : State) : State := State.nextEntry (s.settleEntry o)

/-- Carry out what a change of the sequencer led to. -/
def State.carryOut (t : Turn) : State :=
  match t with
  | (s, none) => s
  | (s, some o) => s.endEntry o

/-! ## Failure episodes: how they end (R83, R87, R88) -/

/-- The episode is over and its record discarded (R76). -/
def State.closeEpisode (s : State) : State := (s.setEpisode none).setWork .none

/-- The episode ends terminally or by ABORT: the failed unit's fate (R83, R94). -/
def State.episodeFate (e : Episode) (s : State) : State :=
  match e.kind, e.slot with
  | .write, some n => s.setPool (s.pool.hold n)
  | .read, some n => s.deliverCut n
  | _, _ => s

/-- The failed slot of a read episode takes class DAMAGED where it has none (R86, R88). -/
def State.damageUnclassed (n : SlotNo) (s : State) : State :=
  s.editSlot n (fun r => { r with read := { r.read with cls := some (r.read.cls.getD .damaged) } })

/-- The episode ends SKIPPED: the failed unit's fate and the entry record. The truth value says that a
read block was dropped under SUPERSEDE, so that no unit is counted (R88). -/
def State.skipFate (e : Episode) (s : State) : State × Bool :=
  match e.kind, e.slot with
  | .write, some n => (((s.setPool (s.pool.hold n)).record .skip), false)
  | .read, some n =>
    let s := s.damageUnclassed n
    let dropped := s.pool.delivery s.entry.supersede (s.slot n) == .dropped
    let s := s.deliver s.entry.supersede n
    if dropped then (s, true) else (s.record .skip, false)
  | _, _ => (s.record .skip, false)

/-- The episode ends SKIPPED, and the entry goes on or ends (R63, R88). -/
def State.skip (s : State) : Turn :=
  match s.seq.episode with
  | none => (s, none)
  | some e =>
    match s.skipFate e with
    | (s, true) => s.closeEpisode.unitDropped
    | (s, false) => s.closeEpisode.unitOver

/-- A read re-attempt has met a file mark or a blank window: the episode ends SKIPPED and the entry ends
with the given outcome (R86, R88). DEDUCED (log entry 35): it ends so, and the unit is not counted, also
where the failed slot is dropped under SUPERSEDE. -/
def State.skipThen (o : EntryOutcome) (s : State) : Turn :=
  match s.seq.episode with
  | none => (s, none)
  | some e =>
    match s.skipFate e with
    | (s, true) => ((s.record .drop).closeEpisode, some o)
    | (s, false) => (s.closeEpisode, some o)

/-- The sequencer enters FROZEN (R90). -/
def State.freeze (s : State) : Turn :=
  let s := s.setEpisode (s.seq.episode.map (fun e => { e with cur := none }))
  let s := ((s.setSeqState .frozen).setWork .none).dropTarget
  ((s.requestStop).raise .frozenEntered, none)

/-- The exhaustion path (R89). -/
def State.exhaust (s : State) : Turn :=
  if s.seq.ctl.freezeOnFailure then s.freeze else s.skip

/-- The episode ends terminally, and the entry with the outcome (R83). -/
def State.episodeTerminal (o : EntryOutcome) (s : State) : Turn :=
  match s.seq.episode with
  | none => (s, some o)
  | some e => (((s.episodeFate e).dropTarget).closeEpisode, some o)

/-- A re-attempt of a write or mark succeeds: the episode ends RECOVERED (R87). -/
def State.recoverWrite (e : Episode) (marginal : Bool) (s : State) : Turn :=
  let s := match e.slot with
    | some n => s.freeActive n
    | none => s
  ((s.record (.recovered marginal)).closeEpisode).unitOver

/-- A re-attempt of a read gives a CLEAN or MARGINAL block: the episode ends RECOVERED with the block
delivered, or without a unit where it is dropped (R86, R87). -/
def State.recoverRead (n : SlotNo) (marginal : Bool) (s : State) : Turn :=
  let dropped := s.pool.delivery s.entry.supersede (s.slot n) == .dropped
  let s := s.deliver s.entry.supersede n
  if dropped then s.closeEpisode.unitDropped
  else ((s.record (.recovered marginal)).closeEpisode).unitOver

/-! ## Failure episodes: the recovery list (R79 to R86) -/

/-- The checks of R80 that end a step terminally. -/
def State.stepCheck (writes forward : Bool) (s : State) : Option EntryOutcome :=
  match s.xp.motion with
  | .noCartridge | .notReady => some .notReady
  | .fault => some .transportFault
  | _ =>
    if writes && s.writeCheck.isSome then s.writeCheck
    else if forward && s.xp.levels.eom then some .eomMet
    else none

/-- What the transport's answer means to a step of an episode. -/
def State.afterStepRequest (r : Reply) (s : State) : Turn :=
  match r with
  | .refused o => s.episodeTerminal o
  | _ => (s, none)

/-- A re-attempt of the failed unit begins, after the checks of R80 (R84 to R86). -/
def State.reattempt (s : State) : Turn :=
  match s.seq.episode with
  | none => (s, none)
  | some e =>
    let s := s.setSeqState .recovery
    match s.stepCheck (e.kind != .read) true with
    | some o => s.episodeTerminal o
    | none =>
      match e.kind, e.slot with
      | .write, some n =>
        let s := s.setWork (.writeSlot n)
        let (s, r) := s.beginWriteUnit (s.slotUnit n true)
        s.afterStepRequest r
      | .read, some n =>
        let s := ((s.dropTarget).takeFramePeriod).setWork (.read n)
        let (s, r) := s.requestDir .forward
        s.afterStepRequest r
      | _, _ =>
        let s := s.setWork .writeMark
        let (s, r) := s.beginWriteUnit (s.markUnit e.tag true)
        s.afterStepRequest r

/-- Count one re-attempt in the episode and in the entry record (R76, R84, R92). -/
def State.countAttempt (spend : Bool) (s : State) : State :=
  (s.setEpisode (s.seq.episode.map (fun e =>
    { e with attempts := bump e.attempts, budget := if spend then e.budget - 1 else e.budget }))).record
      .retry

/-- A RETRY recovery entry (R84). -/
def State.retryStep (s : State) : Turn :=
  match s.seq.episode with
  | none => (s, none)
  | some e => if e.budget = 0 then s.exhaust else (s.countAttempt true).reattempt

/-- A unit of a recovery ERASE begins (R82). -/
def State.recoveryErase (s : State) : Turn :=
  let s := s.setWork .erase
  let (s, r) := s.beginEraseUnit
  s.afterStepRequest r

/-- The recovery entry at an index becomes the current one. -/
def State.enterRecovery (i : Fin 4) (s : State) : State :=
  let s := s.setEpisode (s.seq.episode.map (fun e => { e with cur := some i }))
  ((s.setSeqState .recovery).setRecCount 0).setWork .none

/-- The recovery entry at an index begins, and where it ends at once the next one (R79 to R82). A step
of fuel is spent on each of the four entries at most. -/
def State.recoverFrom : Nat → Nat → State → Turn
  | 0, _, s => s.exhaust
  | k + 1, i, s =>
    if h : i < 4 then
      if i < s.seq.ctl.recLength then
        let s := s.enterRecovery ⟨i, h⟩
        match (s.seq.recovery i).recoveryOp with
        | some .spaceFwd =>
          match s.stepCheck false true with
          | some o => s.episodeTerminal o
          | none =>
            let s := (s.takeFramePeriod).setWork (.space .forward)
            let (s, r) := s.requestDir .forward
            s.afterStepRequest r
        | some .spaceRev =>
          match s.stepCheck false false with
          | some o => s.episodeTerminal o
          | none =>
            let s := (s.takeFramePeriod).setWork (.space .reverse)
            match s.requestDir .reverse with
            | (s, .refused .bomMet) => State.recoverFrom k (i + 1) s
            | (s, r) => s.afterStepRequest r
        | some .erase =>
          match s.stepCheck true true with
          | some o => s.episodeTerminal o
          | none => s.recoveryErase
        | some .retry => s.retryStep
        | some .skip => s.skip
        | some .freeze => s.freeze
        | _ => State.recoverFrom k (i + 1) s
      else s.exhaust
    else s.exhaust

/-- The recovery list runs from an entry on. -/
def State.recover (i : Nat) (s : State) : Turn := s.recoverFrom 5 i

/-- The recovery motion in progress has ended: the next recovery entry begins (R79). -/
def State.nextRecovery (s : State) : Turn :=
  match s.seq.episode.bind (·.cur) with
  | none => s.exhaust
  | some i => s.recover (i.val + 1)

/-- A unit has failed: a failure episode opens (R63, R75 to R77). -/
def State.openEpisode (kind : UnitKind) (slot : Option SlotNo) (tag : Option Byte)
    (last : AttemptClass) (s : State) : Turn :=
  let e := s.entry
  let direct := e.noRecovery || s.seq.ctl.recLength == 0
  let s := s.setEpisode (some
    { kind := kind, slot := slot, tag := tag, budget := e.budget.toNat, attempts := 0,
      cur := none, last := last })
  let s := (s.setWork .none).setSeqState .recovery
  if direct then s.exhaust else s.recover 0

/-- A re-attempt has failed: the episode begins its list again, or returns to FROZEN where the host
ordered the re-attempt (R87, R92). -/
def State.reattemptFailed (s : State) : Turn :=
  let s := s.setWork .none
  match s.seq.episode.bind (·.cur) with
  | some _ => s.recover 0
  | none => s.freeze

/-- The episode's last class (R76). -/
def State.setLast (c : AttemptClass) (s : State) : State :=
  s.setEpisode (s.seq.episode.map (fun e => { e with last := c }))

/-! ## Reports of the write channel (R48, R49, R63, R85, R87) -/

/-- The attempt class of a write class. -/
def WriteClass.attempt : WriteClass → AttemptClass
  | .clean => .clean
  | .marginal => .marginal
  | .failed => .failed

/-- A read-back of the class fails the unit (R63). -/
def ListEntry.fails (e : ListEntry) (c : WriteClass) : Bool :=
  c == .failed || (c == .marginal && e.strict)

/-- The write channel reports the class of the current unit's read-back, or, without VERIFY, that the
check group has been written, which counts as CLEAN. -/
def State.writeReport (u : WUnit) (c : WriteClass) (s : State) : Turn :=
  if s.seq.state.unitRuns then
    if s.entry.fails c then s.openEpisode u.unitKind u.slot u.tag c.attempt
    else
      let s := match u.slot with
        | some n => s.freeActive n
        | none => s
      (s.record (fun r => (r.done).marginalIf (c == .marginal))).unitOver
  else if s.seq.state = .recovery then
    let s := s.setLast c.attempt
    match s.seq.episode with
    | none => (s, none)
    | some e => if s.entry.fails c then s.reattemptFailed else s.recoverWrite e (c == .marginal)
  else (s, none)

/-! ## Changes that end what runs -/

/-- The fate of what runs when a terminal change or ABORT ends the entry (R28, R30, R83, R94). -/
def State.fate (s : State) : State :=
  let s := match s.seq.episode with
    | some e => s.episodeFate e
    | none => s.dropUnit
  s.dropTarget

/-- A terminal outcome ends the running entry, if one runs (R62, R83). -/
def State.terminalChange (o : EntryOutcome) (s : State) : State :=
  if s.seq.state.entryRuns then s.fate.endEntry o else s

/-- ABORTING ends the list once the transport is at rest and no result is pending (R73). -/
def State.abortingCheck (s : State) : State :=
  if s.seq.state = .aborting ∧ s.xp.atRest = true ∧ s.seq.pendingResult = none then
    s.listEnd .aborted
  else s

/-- The transport stops for an ABORT. The channel leaves BLOCK in that event, so what was deferred is
taken first, and the stop then drops what it leaves held (R72, R115, R157; log entry 9). -/
def State.abortMotion (s : State) : State := s.channelIdle.spendDeferred.takeStop

/-- ABORT taken with an entry running (R72, R94). -/
def State.abortEntry (s : State) : State :=
  let s := s.abortMotion
  let r := s.buildResult .aborted
  let s := s.fate
  let s := s.setSeq { s.seq with episode := none, stopInd := false, state := .aborting }
  let s := s.setWork .none
  if s.resultRoom then s.joinResult r else s.stallResult r

/-- The result that was pending has found room: it joins the queue, and POST_WAIT goes on (R68). -/
def State.postPending (r : Result) (s : State) : State :=
  let s := (s.setPending none).joinResult r
  if s.seq.state = .postWait then State.nextEntry (s.goOn r.outcome) else s.abortingCheck

/-! ## STOP (R69 to R71) -/

/-- The write unit that the channel works for has turned its write gate on. -/
def State.blockBegun (s : State) : Bool :=
  (s.wch.phase == .block && s.wch.held == none) || s.wch.phase == .after

/-- The write unit that has not begun its block is given up at the channel. A postamble of the block
before goes on to its end (R69, R102). -/
def State.giveUpWrite (s : State) : State :=
  if s.wch.phase = .block then s.setWch { s.wch with held := none } else s.channelIdle

/-- STOP acts on the unit that runs (R69). -/
def State.stopUnit (s : State) : State :=
  match s.seq.work with
  | .waitHead | .waitSlot => s.endEntry .stopped
  | .writeSlot n =>
    if s.blockBegun then s.setSeqState .stopping
    else ((s.setPool (s.pool.headReturn n)).giveUpWrite).endEntry .stopped
  | .writeMark =>
    if s.blockBegun then s.setSeqState .stopping else s.giveUpWrite.endEntry .stopped
  | .read n =>
    if s.inBurst then s.setSeqState .stopping
    else ((s.freeActive n).dropTarget).endEntry .stopped
  | .space _ | .seek _ => if s.inBurst then s.setSeqState .stopping else s.endEntry .stopped
  | .none | .erase | .rewind | .unload => s.setSeqState .stopping

end Sys2Proof.Machine
end

