-- ==== Sys2Proof/Machine/Detection.lean ====
section
/-! DEFINITION. What a burst's end does to the running unit (R69, R86, R118, R125 to R128), and the
slots and requests that waiting units are served with (R23, R26, R29, R153). -/

namespace Sys2Proof.Machine

/-! ## Detections (R126, R127) -/

/-- The entry ends because its unit has met a file mark: FILE_MARK_MET, and for a count of 0 DONE (R50,
R51), or STOPPED where the stop indication is set (R71). -/
def State.markOutcome (s : State) : EntryOutcome :=
  if s.entry.count ≠ 0 then .fileMarkMet else if s.seq.stopInd then .stopped else .done

/-- A block has been assembled whole into the READ unit's slot (R50, R63, R131). -/
def State.readBlock (n : SlotNo) (c : ReadClass) (s : State) : Turn :=
  if c = .damaged then s.openEpisode .read (some n) (s.slot n).tag .damaged
  else
    let dropped := s.pool.delivery s.entry.supersede (s.slot n) == .dropped
    let s := s.deliver s.entry.supersede n
    if dropped then s.unitDropped
    else (s.record (fun r => (r.done).marginalIf (c == .marginal))).unitOver

/-- The READ unit meets a file mark: its slot becomes FREE and the entry ends (R50). -/
def State.readMark (n : SlotNo) (s : State) : Turn := ((s.freeActive n).dropTarget, some s.markOutcome)

/-- The burst that STOP waited for is over and is not the unit's: a SEEK unit is given up (R69, R71). A
READ or SPACE unit goes on past noise, and past a block that is not its unit, to the next burst (R14,
R118; log entry 30). -/
def State.giveUpPass (s : State) : Turn :=
  match s.seq.state, s.seq.work with
  | .stopping, .seek _ => (s, some .stopped)
  | _, _ => (s, none)

/-- A READ unit's slot is given back by a cut burst: it becomes FREE, and the unit makes its claim
again (R30, R118). -/
def State.readCut (n : SlotNo) (s : State) : Turn :=
  let s := ((s.freeActive n).dropTarget).setWork .none
  if s.seq.stopInd then (s, some .stopped) else s.beginUnit

/-- A detection is handed to the unit that runs outside any episode (R126, R127). -/
def State.handUnit (f : Found) (s : State) : Turn :=
  match s.seq.work, f.kind with
  | .read n, .data =>
    match f.dir, f.stored, f.givenBack with
    | .forward, some (_, c), _ => s.readBlock n c
    | .forward, none, some _ => s.readCut n
    | _, _, _ => s.giveUpPass
  | .read n, .mark => if f.dir = .forward then s.readMark n else s.giveUpPass
  | .waitSlot, .mark => if f.dir = .forward then (s, some s.markOutcome) else (s, none)
  | .space d, .data => if f.dir = d then (s.record .done).unitOver else s.giveUpPass
  | .space d, .mark => if f.dir = d then (s, some s.markOutcome) else s.giveUpPass
  | .seek d, .mark => if f.dir = d then (s.record .done).unitOver else s.giveUpPass
  | .seek _, .data => s.giveUpPass
  | _, _ => (s, none)

/-- One block passed against the count of a recovery SPACE (R81). -/
def State.recoveryPassed (s : State) : Turn :=
  let i := ((s.seq.episode.bind (·.cur)).map (·.val)).getD 0
  let n := s.seq.recCount + 1
  if (s.seq.recovery i).count.toNat ≤ n then s.nextRecovery else (s.setRecCount n, none)

/-- A block has been assembled whole by a read re-attempt (R86, R87). -/
def State.reread (n : SlotNo) (c : ReadClass) (s : State) : Turn :=
  match c with
  | .damaged => (s.setLast .damaged).reattemptFailed
  | .marginal => (s.setLast .marginal).recoverRead n true
  | .clean => (s.setLast .clean).recoverRead n false

/-- A detection is handed to the recovery motion or re-attempt that runs (R81, R86, R126, R127). -/
def State.handRecovery (f : Found) (s : State) : Turn :=
  match s.seq.work, f.kind with
  | .space d, .data => if f.dir = d then s.recoveryPassed else (s, none)
  | .space d, .mark => if f.dir = d then s.nextRecovery else (s, none)
  | .read n, .data =>
    match f.dir, f.stored with
    | .forward, some (_, c) => s.reread n c
    | _, _ => (s, none)
  | .read _, .mark =>
    if f.dir = .forward then (s.dropTarget).skipThen s.markOutcome else (s, none)
  | _, _ => (s, none)

/-- A detection is handed to what runs, if anything does (R126, R127). DEDUCED (log entry 45): that is the
unit or the recovery step which runs as the burst ends, also where it began while the burst was in
progress. -/
def State.handOn (f : Found) (s : State) : State :=
  if s.seq.state.unitRuns then State.carryOut (s.handUnit f)
  else if s.seq.state = .recovery then State.carryOut (s.handRecovery f)
  else s

/-- A burst has ended, as noise or with a detection. -/
def State.burstOver (f : Option Found) (s : State) : State :=
  match f with
  | some f => s.handOn f
  | none => State.carryOut s.giveUpPass

/-! ## Blank tape (R128) -/

/-- BLANK_MET is reported to the unit that the blank timer watched for. -/
def State.blankMet (s : State) : State :=
  if s.seq.state.unitRuns then
    match s.seq.work with
    | .read n => ((s.freeActive n).dropTarget).endEntry .blankMet
    | .space _ | .seek _ => s.endEntry .blankMet
    | _ => s
  else if s.seq.state = .recovery then
    match s.seq.work with
    | .read _ => State.carryOut ((s.dropTarget).skipThen .blankMet)
    | .space _ => State.carryOut s.nextRecovery
    | _ => s
  else s

/-! ## BOM reached in motion (R51, R52, R81) -/

/-- The tape has reached BOM in reverse motion: a SPACE_REV or SEEK_REV ends BOM_MET, a recovery
SPACE_REV ends. -/
def State.bomMet (s : State) : State :=
  if s.seq.state.unitRuns then
    match s.seq.work with
    | .space .reverse | .seek .reverse => s.endEntry .bomMet
    | _ => s
  else if s.seq.state = .recovery then
    match s.seq.work with
    | .space .reverse => State.carryOut s.nextRecovery
    | _ => s
  else s

/-! ## Waiting units -/

/-- A WRITE unit waits for the head of the write queue. -/
def State.waitsForHead (s : State) : Bool := s.seq.state == .running && s.seq.work == .waitHead

/-- A READ unit waits for its read claim. -/
def State.waitsForSlot (s : State) : Bool := s.seq.state == .running && s.seq.work == .waitSlot

/-- A slot has joined the write queue at the tail: a waiting WRITE unit takes the head and begins
(R26). -/
def State.serveHead (s : State) : State :=
  if s.waitsForHead && s.pool.writeQ != [] then State.carryOut s.beginUnit else s

/-- The waiting read claim is granted the slot, whose unit then goes on (R23, R29). -/
def State.serveClaim (s : State) : State :=
  if s.waitsForSlot then
    match s.pool.lowestFree with
    | some n => State.carryOut ((s.grantClaim n).readGoesOn n)
    | none => s
  else s

/-- What follows a host command that has made a slot FREE, where the free count was `before`: a waiting
read claim is granted, then the STARVED stream port's claim is tried, then SLOT_FREED is judged, and
the READ unit that was served goes on (R23). -/
def State.serveFreed (before : Nat) (s : State) : State :=
  if s.waitsForSlot then
    match s.pool.lowestFree with
    | some n => State.carryOut (((s.grantClaim n).settleFree before).readGoesOn n)
    | none => s.settleFree before
  else s.settleFree before

/-! ## Held requests (R153, R160) -/

/-- The motion that a piece of work asks for as it begins (R98, R111, R134, R160, R161). -/
def Work.asks : Work → Option HeldRequest
  | .writeSlot _ | .writeMark | .read _ | .waitSlot | .erase => some (.dir .forward)
  | .space d | .seek d => some (.dir d)
  | .rewind => some .rewind
  | .unload => some .unload
  | .none | .waitHead => Option.none

/-- The sequencer waits with no unit ready: for the head of the write queue, for a slot, or in POST_WAIT
(R158). -/
def Sequencer.waits (q : Sequencer) : Bool :=
  q.state == .postWait || (q.state == .running && (q.work == .waitHead || q.work == .waitSlot))

/-- The transport refuses the request of the current work (R51, R52, R62, R81, R153). -/
def State.requestRefused (o : EntryOutcome) (s : State) : State :=
  if o = .bomMet then
    if s.seq.state = .recovery then State.carryOut s.nextRecovery else s.endEntry .bomMet
  else s.channelIdle.terminalChange o

/-- The transport answers a request that it held or deferred. A refusal, and a rewind done without motion,
reach the work that asked, where it is still the current one. DEDUCED (log entry 29): the request of work
that has ended is answered too, and motion that is taken while the sequencer waits is followed by the
idle report, so that the tape lingers and stops. -/
def State.heldAnswer (r : HeldRequest) (a : Reply) (s : State) : State :=
  let asked := s.seq.state.entryRuns && s.seq.work.asks == some r
  match a with
  | .taken => if s.seq.waits then s.idleReport else s
  | .done => if asked && s.seq.work == .rewind then s.endEntry .done else s
  | .refused o => if asked then s.requestRefused o else s

/-- The held request is answered as the transport has come to rest (R153). -/
def State.answerHeld (s : State) : State :=
  match s.xp.held with
  | none => s
  | some r =>
    let (s, a) := (s.hold none).request r
    s.heldAnswer r a

/-! ## Deferred requests (R157) -/

/-- A deferred request is taken, and the work that made it is answered. -/
def State.serveDeferred (s : State) (r : Deferred) : State :=
  let (s, a) := s.takeOneDeferred r
  match r.request with
  | some h => s.heldAnswer h a
  | none => s

/-- The deferred requests are taken once the write channel has left BLOCK, the oldest first (R157). -/
def State.takeDeferred (s : State) : State :=
  if s.wch.phase = .block then s
  else s.xp.deferred.foldl State.serveDeferred (s.setDeferred [])

/-- The FORWARD request that the current work made while the write channel was in BLOCK is taken again,
after a deferred request has acted on the motion. DEDUCED (log entry 8). -/
def State.askForward (s : State) : State :=
  if s.seq.state.entryRuns && s.seq.work.asks == some (.dir .forward) && s.seq.work != .waitSlot then
    let (s, a) := s.requestDir .forward
    s.heldAnswer (.dir .forward) a
  else s

/-- The write channel has left BLOCK: the deferred requests are taken, and where there were any the
current work's FORWARD request after them (R157; log entry 8). -/
def State.blockLeft (s : State) : State :=
  if s.xp.deferred = [] then s else s.takeDeferred.askForward

end Sys2Proof.Machine
end

