-- ==== Sys2Proof/Machine/Tape.lean ====
section
/-! DEFINITION. The commands of the heads and of the tape-side timers: rows at the read head, the gap,
check group, postamble, verify and erase timers, the blank window, and the write channel's own
follow-on steps (R96 to R134). A timer's command whose timer does not run changes nothing (log entry
3). -/

namespace Sys2Proof.Machine

/-- What a command answers. -/
abbrev Answered := Host.Outcome State Fault Refusal

/-! ## The verify -/

/-- The read-back is classified and reported, and the channel leaves AFTER (R105, R107). -/
def State.classifyVerify (s : State) : State :=
  match s.wch.unit, s.wch.verify with
  | some u, some v => (State.carryOut ((s.recordClass u v).writeReport u v.class)).settleChannel
  | _, _ => s

/-- A row sensed while the write channel is out of IDLE (R103, R116). -/
def State.watchRow (strict lenient : Row) (s : State) : State :=
  match s.verifyRow strict lenient with
  | (s, true) => s.endWatch.classifyVerify
  | (s, false) => s

/-- A row taken by the read channel (R116, R118). -/
def State.readRow (strict lenient : Row) (s : State) : State :=
  let before := s.inBurst
  let (s, f) := s.takeRow strict lenient
  if before && !s.inBurst then s.burstOver f else s

/-- READ_HEAD_ROW (R116): a row reaches the formatter while the tape moves at running speed, and serves
the verify while the write channel is out of IDLE, the read channel otherwise. -/
def execReadHeadRow (strict lenient : Row) (s : State) : Answered :=
  .next <|
    if s.xp.listening then
      if s.wch.phase = .idle then s.readRow strict lenient else s.watchRow strict lenient
    else s

/-- VERIFY_WATCH_OPEN (R103). -/
def execVerifyWatchOpen (s : State) : Answered :=
  .next <|
    match s.wch.watchTimer, s.wch.verify with
    | some _, some v =>
      s.setWch { s.wch with
        watchTimer := none
        verify := some (if v.watch = .unopened then { v with watch := .waiting } else v) }
    | _, _ => s

/-- VERIFY_DEADLINE (R103). -/
def execVerifyDeadline (s : State) : Answered :=
  .next <| if s.wch.deadline.isSome then s.endWatch.classifyVerify else s

/-! ## The write channel's timers and ends -/

/-- GAP_TIMER_EXPIRY (R99): in GAP the block opens, since no earlier verify is then pending. In AFTER
the timer has run out before the next unit has come. -/
def execGapTimerExpiry (s : State) : Answered :=
  .next <|
    match s.wch.gapTimer with
    | .running _ =>
      let s := s.setWch { s.wch with gapTimer := .ranOut }
      if s.wch.phase = .gap then s.openBlock else s
    | _ => s

/-- BLOCK_OPEN_ON_CLASSIFY (R99): a unit in GAP whose timer has run out opens its block. -/
def execBlockOpenOnClassify (s : State) : Answered :=
  .next <|
    if s.wch.phase = .gap ∧ s.wch.gapTimer = .ranOut ∧ s.wch.verify = none then s.openBlock else s

/-- CHECK_GROUP_WRITTEN (R101): the block is on the tape for counting, and a unit without VERIFY is
done. -/
def execCheckGroupWritten (s : State) : Answered :=
  .next <|
    match s.wch.unit with
    | none => s
    | some u =>
      if s.wch.phase = .block ∧ s.wch.checkWritten = false then
        let s := s.blockOnTape u
        if u.verify then s else State.carryOut (s.writeReport u .clean)
      else s

/-- The postamble has been written: what was deferred is taken, and without VERIFY the work that waits
takes over the channel, or the channel returns to IDLE (R102, R157). -/
def State.postambleDone (u : WUnit) (s : State) : State :=
  let s := (s.enterAfter u).blockLeft
  if u.verify then s else s.takeOverAfter.settleChannel

/-- POSTAMBLE_WRITTEN (R102). -/
def execPostambleWritten (s : State) : Answered :=
  .next <|
    match s.wch.unit with
    | none => s
    | some u => if s.wch.phase = .block ∧ s.wch.checkWritten = true then s.postambleDone u else s

/-- The erase length has run out: the ERASE unit is done, or one more length of a recovery ERASE
(R53, R82, R111). -/
def State.eraseDone (s : State) : Turn :=
  if s.seq.work = .erase then
    if s.seq.state.unitRuns then (s.record .done).unitOver
    else if s.seq.state = .recovery then
      let i := ((s.seq.episode.bind (·.cur)).map (·.val)).getD 0
      let n := s.seq.recCount + 1
      if (s.seq.recovery i).count.toNat ≤ n then s.nextRecovery
      else (s.setRecCount n).recoveryErase
    else (s, none)
  else (s, none)

/-- ERASE_TIMER_EXPIRY (R111): the unit ends, and the channel goes on with what follows or returns to
IDLE. -/
def execEraseTimerExpiry (s : State) : Answered :=
  .next <|
    if s.wch.phase = .erasing ∧ s.wch.eraseTimer.isSome = true then
      let s := s.setWch { s.wch with eraseTimer := none }
      (State.carryOut s.eraseDone).settleChannel
    else s

/-! ## Work held until RUNNING forward (R98, R111, R114) -/

/-- A write unit held in IDLE enters GAP once the transport is RUNNING forward. With WPERMIT absent no
gate turns on, and the unit is abandoned (R98, R114). -/
def State.beginHeldWrite (s : State) : State :=
  match s.wch.held with
  | some (.write u) =>
    if s.wch.phase = .idle ∧ s.xp.runningForward = true then
      if s.xp.levels.wpermit then s.freshGap u
      else s.channelIdle.terminalChange .writeProtected
    else s
  | _ => s

/-- An ERASE unit held in IDLE enters ERASING once the transport is RUNNING forward, or is abandoned
with WPERMIT absent (R111, R114). -/
def State.beginHeldErase (s : State) : State :=
  match s.wch.held with
  | some .erase =>
    if s.wch.phase = .idle ∧ s.xp.runningForward = true then
      if s.xp.levels.wpermit then s.endBurstAtWrite.startErasing
      else s.channelIdle.terminalChange .writeProtected
    else s
  | _ => s

/-- GAP_BEGIN_ON_RUNNING (R98). -/
def execGapBeginOnRunning (s : State) : Answered := .next s.beginHeldWrite

/-- ERASING_BEGIN_ON_RUNNING (R111). -/
def execErasingBeginOnRunning (s : State) : Answered := .next s.beginHeldErase

/-! ## Blank tape -/

/-- BLANK_WINDOW_EXPIRY (R128). -/
def execBlankWindowExpiry (s : State) : Answered :=
  .next <|
    if s.xp.blankTimer.isSome ∧ s.blankWatched = true then s.stopBlank.blankMet else s

end Sys2Proof.Machine
end

