-- ==== Sys2Proof/Machine/Drive.lean ====
section
/-! DEFINITION. The commands of the drive: the edges of its six status levels, the transport's timers,
and the transport's own follow-on steps (R138, R149 to R165). An edge that finds the level it would
bring, and an expiry whose timer does not run, change nothing (log entry 3). -/

namespace Sys2Proof.Machine

/-- Change the sampled levels (R150). -/
def State.onLevels (f : Levels → Levels) (s : State) : State :=
  s.setXp { s.xp with levels := f s.xp.levels }

/-- The tape stops moving at once and every line is released: a burst in progress is cut, and the write
channel drops its gates and its work. The channel leaves BLOCK in that event, so what was deferred is
taken first, and the release then drops what it leaves held (R113, R118, R149, R157; log entry 9). -/
def State.releaseAll (m : Motion) (s : State) : State :=
  s.cutBurst.1.channelIdle.spendDeferred.releaseLines m

/-! ## PRESENT (R164) -/

/-- An UNLOAD entry is the current one and its unload is in progress (R54). -/
def State.unloadRuns (s : State) : Bool := s.seq.state.unitRuns && s.seq.work == .unload

/-- PRESENT_FALL (R164). DEDUCED (log entry 32): the position is lost before the entry that ends builds
its result. -/
def execPresentFall (s : State) : Answered :=
  .next <|
    if s.xp.levels.present then
      let s := s.onLevels (fun l => { l with present := false })
      let s := ((s.releaseAll .noCartridge).clearStraddle).forgetTags
      let s := (s.onPos .cartridgeGone).raise .cartridgeChange
      let s := if s.unloadRuns then s.endEntry .done else s.terminalChange .notReady
      s.abortingCheck
    else s

/-- PRESENT_RISE (R164). -/
def execPresentRise (s : State) : Answered :=
  .next <|
    if s.xp.levels.present then s
    else
      let s := (s.onLevels (fun l => { l with present := true })).raise .cartridgeChange
      if s.xp.motion = .noCartridge then
        s.enterMotion (if s.xp.levels.ready then .stopped else .notReady) s.xp.dir false
      else s

/-! ## READY (R163) -/

/-- READY_FALL (R163): FAULT during motion, NOT_READY in STOPPED. The position is lost in any state.
DEDUCED (log entry 32): it is lost before the entry that ends builds its result. -/
def execReadyFall (s : State) : Answered :=
  .next <|
    if s.xp.levels.ready then
      let s := s.onLevels (fun l => { l with ready := false })
      match s.xp.motion with
      | .starting | .running | .stopping | .rewinding =>
        let s := ((s.releaseAll .fault).forgetTags).onPos .lost
        (s.terminalChange .transportFault).abortingCheck
      | .stopped =>
        let s := ((s.releaseAll .notReady).forgetTags).onPos .lost
        s.terminalChange .notReady
      | .unloading | .fault | .notReady | .noCartridge => s.onPos .lost
    else s

/-- READY_RISE (R163). -/
def execReadyRise (s : State) : Answered :=
  .next <|
    if s.xp.levels.ready then s
    else
      let s := s.onLevels (fun l => { l with ready := true })
      if s.xp.motion = .notReady ∧ s.xp.levels.present = true then
        s.enterMotion .stopped s.xp.dir false
      else s

/-! ## WPERMIT (R114) -/

/-- The current work is a write unit's, a re-attempt's or an erase's, or a wait for the write queue. -/
def Work.writeSide : Work → Bool
  | .writeSlot _ | .writeMark | .erase | .waitHead => true
  | _ => false

/-- WPERMIT_FALL (R114): both gates turn off. A unit in GAP, BLOCK or ERASING is abandoned; in AFTER the
verify runs on. -/
def execWpermitFall (s : State) : Answered :=
  .next <|
    if s.xp.levels.wpermit then
      let phase := s.wch.phase
      let s := s.dropGates.onLevels (fun l => { l with wpermit := false })
      match phase with
      | .gap | .block | .erasing =>
        let s := s.channelIdle.blockLeft
        if s.seq.work.writeSide then s.terminalChange .writeProtected else s
      | .after | .idle => s
    else s

/-- WPERMIT_RISE (R114): the level is kept for the sequencer's checks. -/
def execWpermitRise (s : State) : Answered :=
  .next <|
    if s.xp.levels.wpermit then s else s.onLevels (fun l => { l with wpermit := true })

/-! ## BOM (R136, R138, R159 to R161) -/

/-- The BOM level rises in REWINDING: the rewind stops by its ramp, and a REWIND entry ends DONE. In an
unload it does not end the entry (R160, R161). -/
def State.rewindReached (s : State) : State :=
  let s := (s.onPos .bomReached).stopMotion
  if s.xp.unloadInd = false ∧ s.seq.state.unitRuns = true ∧ s.seq.work = .rewind then
    s.endEntry .done
  else s

/-- BOM_RISE (R159). -/
def execBomRise (s : State) : Answered :=
  .next <|
    if s.xp.levels.bom then s
    else
      let s := s.onLevels (fun l => { l with bom := true })
      match s.xp.motion, s.xp.dir with
      | .starting, .reverse | .running, .reverse => ((s.onPos .bomReached).stopMotion).bomMet
      | .stopping, .reverse => (s.onPos .bomReached).bomMet
      | .rewinding, _ => s.rewindReached
      | .unloading, _ => if s.pos.zone = .unknown then s else s.onPos .bomReached
      | _, _ => s

/-- BOM_FALL (R138). -/
def execBomFall (s : State) : Answered :=
  .next <|
    if s.xp.levels.bom then
      let s := s.onLevels (fun l => { l with bom := false })
      if s.xp.movingForward then s.onPos (.edge .inData) else s
    else s

/-! ## EW (R55, R112, R138) -/

/-- EW rises during a WRITE, MARK or ERASE entry: the event, and EW_PASSED (R55, R112). DEDUCED (log
entry 34): a WRITE unit that waits on an empty write queue is the unit in progress, so with STOP_AT_EW it
takes and writes one slot more before the entry ends EW_MET. -/
def State.ewPassed (s : State) : State :=
  if s.seq.state.entryRuns && s.entry.writes then (s.raise .ew).record .ewSeen else s

/-- EW_RISE (R112). -/
def execEwRise (s : State) : Answered :=
  .next <|
    if s.xp.levels.ew then s
    else
      let s := s.onLevels (fun l => { l with ew := true })
      if s.xp.movingForward then (s.onPos (.edge .pastEw)).ewPassed else s

/-- A marker that falls in reverse, in REWINDING or in UNLOADING sets the zone (R138). -/
def Transport.movingBack (x : Transport) : Bool := x.movingReverse || x.motion == .unloading

/-- EW_FALL (R138). -/
def execEwFall (s : State) : Answered :=
  .next <|
    if s.xp.levels.ew then
      let s := s.onLevels (fun l => { l with ew := false })
      if s.xp.movingBack then s.onPos (.edge .inData) else s
    else s

/-! ## EOM (R62, R138, R159) -/

/-- EOM_RISE (R159; the order of log entry 32): in forward motion the lines are released at once, and a running entry ends
EOM_MET. -/
def execEomRise (s : State) : Answered :=
  .next <|
    if s.xp.levels.eom then s
    else
      let s := s.onLevels (fun l => { l with eom := true })
      if s.xp.movingForward then
        let s := (s.releaseAll .stopped).onPos (.edge .atEom)
        (s.terminalChange .eomMet).abortingCheck
      else s

/-- EOM_FALL (R138). -/
def execEomFall (s : State) : Answered :=
  .next <|
    if s.xp.levels.eom then
      let s := s.onLevels (fun l => { l with eom := false })
      if s.xp.movingBack then s.onPos (.edge .pastEw) else s
    else s

/-! ## The transport's timers (R154, R155, R158, R162) -/

/-- The report RUNNING to the blank timer and to the write channel (R98, R111, R128, R154). -/
def State.reportRunning (s : State) : State := ((s.startBlank).beginHeldWrite).beginHeldErase

/-- START_RAMP_EXPIRY (R154): RUNNING is entered and reported, and a kept idle report begins the linger
then. -/
def execStartRampExpiry (s : State) : Answered :=
  .next <|
    if s.xp.motion = .starting ∧ s.xp.rampTimer.isSome = true then
      let kept := s.xp.keptIdle
      let s := (s.enterMotion .running s.xp.dir false).reportRunning
      if kept then s.takeIdle else s
    else s

/-- What follows the tape's coming to rest in STOPPED: the eject phase, or the answer to a held request
(R155, R161). DEDUCED (log entry 29): a list that has ended or frozen in this very event leaves the tape
at rest (R65, R90), and what it asked for is dropped. -/
def State.afterRest (s : State) : State :=
  if s.xp.motion = .stopped then
    if s.xp.unloadInd then s.beginEject
    else if s.seq.state = .idle ∨ s.seq.state = .frozen then s.hold none
    else s.answerHeld
  else s

/-- STOP_RAMP_EXPIRY (R155): STOPPED is entered, a burst in progress is cut and handed on, ABORTING
learns of the rest, and the eject phase or a held request follows. -/
def execStopRampExpiry (s : State) : Answered :=
  .next <|
    if s.xp.motion = .stopping ∧ s.xp.rampTimer.isSome = true then
      let burst := s.inBurst
      let (s, f) := s.cutBurst
      let s := s.enterMotion .stopped s.xp.dir false
      let s := if burst then s.burstOver f else s
      (s.abortingCheck).afterRest
    else s

/-- LINGER_EXPIRY (R158): STOPPING, with no request held. -/
def execLingerExpiry (s : State) : Answered :=
  .next <|
    if s.xp.motion = .running ∧ s.xp.lingerTimer.isSome = true then (s.stopMotion).hold none else s

/-- REWIND_LIMIT_EXPIRY (R162): FAULT, the position lost first (log entry 32). -/
def execRewindLimitExpiry (s : State) : Answered :=
  .next <|
    if (s.xp.motion = .rewinding ∨ s.xp.motion = .unloading) ∧ s.xp.rewindTimer.isSome = true then
      let s := ((s.releaseAll .fault).forgetTags).onPos .lost
      (s.terminalChange .transportFault).abortingCheck
    else s

/-! ## The transport's follow-on steps -/

/-- HELD_REQUEST_ANSWERED (R153): with the tape at rest and no eject phase to come, the held request is
taken or refused. -/
def execHeldRequestAnswered (s : State) : Answered :=
  .next <| if s.xp.atRest ∧ s.xp.unloadInd = false then s.answerHeld else s

/-- DEFERRED_REQUEST_TAKEN (R157). -/
def execDeferredRequestTaken (s : State) : Answered := .next s.takeDeferred

/-- KEPT_IDLE_REPORT_TAKEN (R154): in RUNNING a kept idle report begins the linger. -/
def execKeptIdleReportTaken (s : State) : Answered :=
  .next <|
    if s.xp.motion = .running ∧ s.xp.keptIdle = true then
      (s.setXp { s.xp with keptIdle := false }).takeIdle
    else s

/-- EJECT_PHASE_BEGIN (R161). -/
def execEjectPhaseBegin (s : State) : Answered :=
  .next <| if s.xp.motion = .stopped ∧ s.xp.unloadInd = true then s.beginEject else s

end Sys2Proof.Machine
end

