-- ==== Sys2Proof/Machine/HostPort.lean ====
section
/-! DEFINITION. The host port's own commands and registers: what every access does first, the events
and the mask, HOSTSTAT, CMDARG, the three read windows, the counts, POS, SEQSTAT and XPSTAT, and
RESULT_ADVANCE (R182 to R192). -/

namespace Sys2Proof.Machine

/-! ## Accesses -/

/-- An access of the window sets both sequence indexes to 0 (R184). -/
def State.touch (s : State) : State := s.setHost { s.host with seqIx := 0, xpIx := 0 }

/-! ## Events, mask and status (R187, R191, R192) -/

/-- The bits of a byte of EVENTS or EVMASK in their places: the high byte has one bit. -/
def eventBits (hi : Bool) (b : Byte) : BitVec 9 :=
  if hi then (b.extractLsb' 0 1) ++ (0 : BitVec 8) else (0 : BitVec 1) ++ b

/-- The places of a byte of EVENTS or EVMASK. -/
def eventPlaces (hi : Bool) : BitVec 9 := eventBits hi 0xFF

/-- A byte of EVENTS or EVMASK as it reads. -/
def eventByte (hi : Bool) (v : BitVec 9) : Byte :=
  if hi then (v.extractLsb' 8 1).setWidth 8 else v.extractLsb' 0 8

/-- A write to EVENTS clears each flag whose bit is 1 (R191). -/
def State.clearEvents (hi : Bool) (b : Byte) (s : State) : State :=
  s.setHost { s.host with events := s.host.events &&& ~~~ eventBits hi b }

/-- EVENTS_CLEAR (R191). -/
def execEventsClear (hi : Bool) (b : Byte) (s : State) : Answered :=
  .next (s.touch.clearEvents hi b)

/-- A byte of EVMASK is stored (R192). -/
def State.storeMask (hi : Bool) (b : Byte) (s : State) : State :=
  s.setHost { s.host with
    evmask := (s.host.evmask &&& ~~~ eventPlaces hi) ||| eventBits hi b }

/-- EVMASK_WRITE (R192). -/
def execEvmaskWrite (hi : Bool) (b : Byte) (s : State) : Answered := .next (s.touch.storeMask hi b)

/-- A write to HOSTSTAT clears each flag whose bit is 1 (R187). -/
def State.clearHoststat (b : Byte) (s : State) : State :=
  s.setHost { s.host with hoststat := s.host.hoststat &&& ~~~ b.extractLsb' 0 4 }

/-- HOSTSTAT_CLEAR (R187). -/
def execHoststatClear (b : Byte) (s : State) : Answered := .next (s.touch.clearHoststat b)

/-- CMDARG is stored (R185). -/
def State.storeCmdarg (b : Byte) (s : State) : State := s.setHost { s.host with cmdarg := b }

/-! ## Counts and position (R148, R183) -/

/-- FILLCNT's low byte, which latches the high one. -/
def State.readFillcnt (s : State) : State :=
  (s.setHost { s.host with fillLatch := .load (hiByte s.pool.fillCount) }).drive
    (loByte s.pool.fillCount)

/-- FILLCNT_READ (R183). -/
def execFillcntRead (s : State) : Answered := .next s.touch.readFillcnt

/-- DRAINCNT's low byte, which latches the high one. -/
def State.readDraincnt (s : State) : State :=
  (s.setHost { s.host with drainLatch := .load (hiByte s.pool.drainCount) }).drive
    (loByte s.pool.drainCount)

/-- DRAINCNT_READ (R183). -/
def execDraincntRead (s : State) : Answered := .next s.touch.readDraincnt

/-- POS byte 0, which latches the other four. -/
def State.readPos (s : State) : State :=
  (s.setHost { s.host with posLatch := .load s.pos.posRest }).drive s.pos.pos0

/-- POS_READ (R148). -/
def execPosRead (s : State) : Answered := .next s.touch.readPos

/-- POS bytes 1 to 4: the latched copy, or the current bytes where none has been latched since a reset
(R183). -/
def State.posByte (s : State) (k : Nat) : Byte := ((s.host.posLatch.shown s.pos.posRest)[k - 1]?).getD 0

/-! ## SEQSTAT and XPSTAT (R184) -/

/-- A byte of SEQSTAT in its sequence. The index of XPSTAT goes to 0. -/
def State.readSeqstat (s : State) : State :=
  let s := s.setHost { s.host with xpIx := 0 }
  let s := if s.host.seqIx = 0 then s.setHost { s.host with seqLatch := s.seq.seqstat } else s
  let b := (s.host.seqLatch[s.host.seqIx.val]?).getD 0
  (s.setHost { s.host with seqIx := s.host.seqIx + 1 }).drive b

/-- SEQSTAT_READ (R184). -/
def execSeqstatRead (s : State) : Answered := .next s.readSeqstat

/-- A byte of XPSTAT in its sequence. The index of SEQSTAT goes to 0. -/
def State.readXpstat (s : State) : State :=
  let s := s.setHost { s.host with seqIx := 0 }
  let s := if s.host.xpIx = 0 then s.setHost { s.host with xpLatch := s.xpstat } else s
  let b := (s.host.xpLatch[s.host.xpIx.val]?).getD 0
  (s.setHost { s.host with xpIx := s.host.xpIx + 1 }).drive b

/-- XPSTAT_READ (R184). -/
def execXpstatRead (s : State) : Answered := .next s.readXpstat

/-! ## The slot record window (R43, R183, R188) -/

/-- SLOTPTR: a selector above 8 is stored as 8, and CLAMPED is set. -/
def State.storeSlotptr (b : Byte) (s : State) : State :=
  let sel := (b.extractLsb' 4 4).toNat
  (s.setHost { s.host with
    slotSel := ⟨min sel 8, by omega⟩
    slotIx := (b.extractLsb' 0 4).toFin }).stickIf (8 < sel) .clamped

/-- SLOTPTR_WRITE (R188). -/
def execSlotptrWrite (b : Byte) (s : State) : Answered := .next (s.touch.storeSlotptr b)

/-- The two-byte field whose low byte stands at a byte index of a slot record. -/
def lowField : Nat → Option (Fin 3)
  | 2 => some 0
  | 7 => some 1
  | 9 => some 2
  | _ => none

/-- The two-byte field whose high byte stands at a byte index of a slot record. -/
def highField : Nat → Option (Fin 3)
  | 3 => some 0
  | 8 => some 1
  | 10 => some 2
  | _ => none

/-- The latch of a field of slot `n` (R183). -/
def latchIndex (n : SlotNo) (f : Fin 3) : Fin 24 := ⟨3 * n.val + f.val, by omega⟩

/-- A byte of slot `n`'s record as the window shows it. -/
def State.slotByte (s : State) (n : SlotNo) (k : Nat) : Byte :=
  match highField k with
  | some f => (s.host.slotLatch[(latchIndex n f).val]).shown (hiByte ((s.slot n).field f))
  | none => (s.slot n).byte k

/-- Load the latch of the field whose low byte is read. -/
def State.latchSlot (n : SlotNo) (k : Nat) (s : State) : State :=
  match lowField k with
  | some f =>
    s.setHost { s.host with
      slotLatch := s.host.slotLatch.set (latchIndex n f).val (.load (hiByte ((s.slot n).field f))) }
  | none => s

/-- A byte of SLOTREC, after which the byte index advances within the record. -/
def State.readSlotrec (s : State) : State :=
  let k := s.host.slotIx.val
  let adv := fun (s : State) => s.setHost { s.host with slotIx := s.host.slotIx + 1 }
  if h : s.host.slotSel.val < 8 then
    let n : SlotNo := ⟨s.host.slotSel.val, h⟩
    let b := s.slotByte n k
    (adv (s.latchSlot n k)).drive b
  else (adv s).drive (s.pool.summary k)

/-- SLOTREC_READ (R43). -/
def execSlotrecRead (s : State) : Answered := .next s.touch.readSlotrec

/-! ## The result window (R183, R188) -/

/-- RESPTR: a value above 11 is stored as 11, and CLAMPED is set. -/
def State.storeResptr (b : Byte) (s : State) : State :=
  (s.setHost { s.host with resptr := ⟨min b.toNat 11, by omega⟩ }).stickIf (11 < b.toNat) .clamped

/-- RESPTR_WRITE (R188). -/
def execResptrWrite (b : Byte) (s : State) : Answered := .next (s.touch.storeResptr b)

/-- A byte of the head result as the window shows it. -/
def State.resultByte (s : State) (r : Result) (k : Nat) : Byte :=
  match k with
  | 9 => s.host.resFileLatch.shown (r.byte 9)
  | 11 => s.host.resBlockLatch.shown (r.byte 11)
  | k => r.byte k

/-- Load the latch of the result field whose low byte is read. -/
def State.latchResult (r : Result) (k : Nat) (s : State) : State :=
  match k with
  | 8 => s.setHost { s.host with resFileLatch := .load (r.byte 9) }
  | 10 => s.setHost { s.host with resBlockLatch := .load (r.byte 11) }
  | _ => s

/-- A byte of RESDATA: 00h, with RESPTR left as it is, while the result queue is empty. -/
def State.readResdata (s : State) : State :=
  match s.host.results with
  | [] => s.drive 0
  | r :: _ =>
    let k := s.host.resptr.val
    let b := s.resultByte r k
    let s := s.latchResult r k
    (s.setHost { s.host with resptr := s.host.resptr + 1 }).drive b

/-- RESDATA_READ (R188). -/
def execResdataRead (s : State) : Answered := .next s.touch.readResdata

/-! ## The capture window (R183, R188) -/

/-- CAPPTR: a value above 6 is stored as 6, and CLAMPED is set. -/
def State.storeCapptr (b : Byte) (s : State) : State :=
  (s.setHost { s.host with capptr := ⟨min b.toNat 6, by omega⟩ }).stickIf (6 < b.toNat) .clamped

/-- CAPPTR_WRITE (R188). -/
def execCapptrWrite (b : Byte) (s : State) : Answered := .next (s.touch.storeCapptr b)

/-- A byte of CAPDATA. Byte 0 latches the other six. -/
def State.readCapdata (s : State) : State :=
  let bytes := captureBytes s.capture
  let k := s.host.capptr.val
  let b := if k = 0 then bytes.1 else ((s.host.capLatch.shown bytes.2)[k - 1]?).getD 0
  let s := if k = 0 then s.setHost { s.host with capLatch := .load bytes.2 } else s
  (s.setHost { s.host with capptr := s.host.capptr + 1 }).drive b

/-- CAPDATA_READ (R188). -/
def execCapdataRead (s : State) : Answered := .next s.touch.readCapdata

/-! ## The result queue (R68, R189, R190) -/

/-- A pending result joins the result queue where there is room (R68, R190). -/
def State.servePending (s : State) : State :=
  match s.seq.pendingResult with
  | some r => if s.resultRoom then s.postPending r else s
  | none => s

/-- RESULT_ADVANCE: the head leaves, and a pending result joins in the same event. -/
def State.advanceResult (s : State) : State :=
  match s.host.results with
  | [] => s.answer .resultEmpty
  | _ :: rest =>
    ((s.setHost { s.host with results := rest, resptr := 0 }).answer .accepted).servePending

/-- RESULT_ADVANCE (R190). -/
def execResultAdvance (s : State) : Answered := .next s.touch.advanceResult

/-- PENDING_RESULT_POSTED (R68). -/
def execPendingResultPosted (s : State) : Answered := .next s.servePending

end Sys2Proof.Machine
end

