-- ==== Sys2Proof/Machine/PoolPort.lean ====
section
/-! DEFINITION. The pool's commands, the data port and TAG, and the pool's own follow-on steps (R22 to
R42). -/

namespace Sys2Proof.Machine

/-! ## Filling (R33 to R36) -/

/-- CLAIM. -/
def State.claim (s : State) : State :=
  if s.pool.hostFill.isSome then s.answer .fillOpen
  else
    match s.pool.lowestFree with
    | none => s.answer .noSlot
    | some n => (s.setPool (s.pool.grantFill n .host)).answer .accepted

/-- CLAIM (R33). -/
def execClaim (s : State) : Answered := .next s.touch.claim

/-- QUEUE. A waiting WRITE unit takes the slot at once. -/
def State.queueFill (s : State) : State :=
  match s.pool.hostFill with
  | none => s.answer .emptyFill
  | some n =>
    if (s.slot n).length = 0 then s.answer .emptyFill
    else ((s.setPool (s.pool.queueFilled n)).answer .accepted).serveHead

/-- QUEUE (R35). -/
def execQueue (s : State) : Answered := .next s.touch.queueFill

/-- QUEUE_MARK. -/
def State.queueMark (s : State) : State :=
  match s.pool.lowestFree with
  | none => s.answer .noSlot
  | some n => ((s.setPool (s.pool.grantMark n)).answer .accepted).serveHead

/-- QUEUE_MARK (R36). -/
def execQueueMark (s : State) : Answered := .next s.touch.queueMark

/-- CANCEL_FILL. -/
def State.cancelFill (s : State) : State :=
  match s.pool.hostFill with
  | none => s.answer .accepted
  | some n =>
    let before := s.pool.freeCount
    ((s.setPool (s.pool.toFree .filling n)).answer .accepted).serveFreed before

/-- CANCEL_FILL (R35). -/
def execCancelFill (s : State) : Answered := .next s.touch.cancelFill

/-- A byte written to DATA. -/
def State.writeData (b : Byte) (s : State) : State :=
  match s.pool.hostFill with
  | none => s.stick .droppedWrite
  | some n =>
    if (s.slot n).length < Config.slotBytes then s.setPool (s.pool.append n b)
    else s.stick .droppedWrite

/-- DATA_WRITE (R34). -/
def execDataWrite (b : Byte) (s : State) : Answered := .next (s.touch.writeData b)

/-! ## Draining (R39, R40) -/

/-- A byte read from DATA. -/
def State.readData (s : State) : State :=
  match s.pool.readQ with
  | [] => (s.drive 0).stick .emptyRead
  | n :: _ =>
    if s.pool.drain < (s.slot n).length then
      (s.setPool { s.pool with drain := s.pool.drain + 1 }).drive
        (s.pool.data.read (slotAddr n s.pool.drain))
    else (s.drive 0).stick .emptyRead

/-- DATA_READ (R39). -/
def execDataRead (s : State) : Answered := .next s.touch.readData

/-- RELEASE. -/
def State.release (s : State) : State :=
  if s.pool.readQ = [] then s.answer .readEmpty
  else
    let before := s.pool.freeCount
    ((s.setPool s.pool.releaseHead).answer .accepted).serveFreed before

/-- RELEASE (R40). -/
def execRelease (s : State) : Answered := .next s.touch.release

/-! ## Held slots (R41, R42) -/

/-- The HELD slot that CMDARG names. -/
def State.namedHeld (s : State) : Option SlotNo :=
  if h : s.host.cmdarg.toNat < 8 then
    let n : SlotNo := ⟨s.host.cmdarg.toNat, h⟩
    if (s.slot n).state = .held then some n else none
  else none

/-- REQUEUE_HELD. -/
def State.requeueHeld (s : State) : State :=
  match s.namedHeld with
  | none => s.answer .notHeld
  | some n => ((s.setPool (s.pool.requeue n)).answer .accepted).serveHead

/-- REQUEUE_HELD (R41). -/
def execRequeueHeld (s : State) : Answered := .next s.touch.requeueHeld

/-- DISCARD_HELD. -/
def State.discardHeld (s : State) : State :=
  match s.namedHeld with
  | none => s.answer .notHeld
  | some n =>
    let before := s.pool.freeCount
    ((s.setPool (s.pool.toFree .held n)).answer .accepted).serveFreed before

/-- DISCARD_HELD (R42). -/
def execDiscardHeld (s : State) : Answered := .next s.touch.discardHeld

/-- DELIVER_HELD. -/
def State.deliverHeld (s : State) : State :=
  match s.namedHeld with
  | none => s.answer .notHeld
  | some n => (s.joinReadTail .held n).answer .accepted

/-- DELIVER_HELD (R42). -/
def execDeliverHeld (s : State) : Answered := .next s.touch.deliverHeld

/-! ## TAG (R25) -/

/-- A write of TAG, taken while the write queue is empty. -/
def State.storeTag (b : Byte) (s : State) : State :=
  if s.pool.writeQ = [] then (s.setPool { s.pool with tag := b }).answer .accepted
  else s.answer .queueBusy

/-- TAG_WRITE (R25). -/
def execTagWrite (b : Byte) (s : State) : Answered := .next (s.touch.storeTag b)

/-! ## The pool's follow-on steps (R23, R26) -/

/-- READ_CLAIM_SERVED (R23). -/
def execReadClaimServed (s : State) : Answered := .next s.serveClaim

/-- WAITING_HEAD_TAKEN (R26). -/
def execWaitingHeadTaken (s : State) : Answered := .next s.serveHead

end Sys2Proof.Machine
end

