-- ==== Sys2Proof/Machine/ListPort.lean ====
section
/-! DEFINITION. List memory, SEQCTL, the timing table and the holding registers, and the sequencer's
five commands (R45, R46, R56, R57, R69, R70, R72, R73, R91 to R93, R151, R152, R183). -/

namespace Sys2Proof.Machine

/-! ## List memory (R45) -/

/-- LISTPTR: a value above 47 is stored as 47, and CLAMPED is set. -/
def State.storeListptr (b : Byte) (s : State) : State :=
  (s.setSeq { s.seq with listptr := ⟨min b.toNat 47, by omega⟩ }).stickIf (47 < b.toNat) .clamped

/-- LISTPTR_WRITE (R45). -/
def execListptrWrite (b : Byte) (s : State) : Answered := .next (s.touch.storeListptr b)

/-- LISTPTR advances, from 47 to 0. -/
def State.advanceListptr (s : State) : State := s.setSeq { s.seq with listptr := s.seq.listptr + 1 }

/-- A byte read from LISTDATA. -/
def State.readListdata (s : State) : State :=
  (s.advanceListptr).drive (s.seq.listMem.read s.seq.listptr.val)

/-- LISTDATA_READ (R45). -/
def execListdataRead (s : State) : Answered := .next s.touch.readListdata

/-- A byte written to LISTDATA: stored in IDLE, and ignored with LIST_LOCKED otherwise. -/
def State.storeListdata (b : Byte) (s : State) : State :=
  if s.seq.state = .idle then
    (s.setSeq { s.seq with listMem := s.seq.listMem.write s.seq.listptr.val b }).advanceListptr
  else (s.advanceListptr).stick .listLocked

/-- LISTDATA_WRITE (R45). -/
def execListdataWrite (b : Byte) (s : State) : Answered := .next (s.touch.storeListdata b)

/-! ## Two-byte settings (R46, R183) -/

/-- The low byte of a two-byte setting is held until its high byte is written. -/
def State.holdLow (r : HoldReg) (b : Byte) (s : State) : State :=
  match r with
  | .seqctl => s.setHost { s.host with holdSeqctl := b }
  | .strlen => s.setHost { s.host with holdStrlen := b }
  | .pace => s.setHost { s.host with holdPace := b }

/-- LOW_BYTE_HOLD_WRITE (R183). -/
def execLowByteHoldWrite (r : HoldReg) (b : Byte) (s : State) : Answered := .next (s.touch.holdLow r b)

/-- The high byte of SEQCTL: the four settings are stored together in IDLE, and the write is ignored
with LIST_LOCKED otherwise. -/
def State.storeSeqctl (b : Byte) (s : State) : State :=
  if s.seq.state = .idle then
    (s.setSeq { s.seq with ctl := .ofBytes b s.host.holdSeqctl }).stickIf
      (SeqCtl.clamps s.host.holdSeqctl) .clamped
  else s.stick .listLocked

/-- SEQCTL_WRITE (R46). -/
def execSeqctlWrite (b : Byte) (s : State) : Answered := .next (s.touch.storeSeqctl b)

/-! ## The timing table (R151, R152) -/

/-- TIMPTR: a value above 9 is stored as 9, and CLAMPED is set. -/
def State.storeTimptr (b : Byte) (s : State) : State :=
  (s.setXp { s.xp with timptr := ⟨min b.toNat 9, by omega⟩ }).stickIf (9 < b.toNat) .clamped

/-- TIMPTR_WRITE (R151). -/
def execTimptrWrite (b : Byte) (s : State) : Answered := .next (s.touch.storeTimptr b)

/-- TIMPTR advances, from 9 to 0. -/
def State.advanceTimptr (s : State) : State := s.setXp { s.xp with timptr := s.xp.timptr + 1 }

/-- An entry read from TIMDATA. -/
def State.readTimdata (s : State) : State :=
  (s.advanceTimptr).drive (s.xp.timing.get s.xp.timptr)

/-- TIMDATA_READ (R151). -/
def execTimdataRead (s : State) : Answered := .next s.touch.readTimdata

/-- An entry written to TIMDATA: clamped and stored in IDLE, and ignored with LIST_LOCKED otherwise. -/
def State.storeTimdata (b : Byte) (s : State) : State :=
  if s.seq.state = .idle then
    let i := s.xp.timptr
    ((s.setXp { s.xp with timing := s.xp.timing.set i (timingClamp i b) }).advanceTimptr).stickIf
      (timingClamp i b != b) .clamped
  else (s.advanceTimptr).stick .listLocked

/-- TIMDATA_WRITE (R151). -/
def execTimdataWrite (b : Byte) (s : State) : Answered := .next (s.touch.storeTimdata b)

/-! ## START (R56, R57) -/

/-- The list begins at M0 (R57). -/
def State.beginList (s : State) : State :=
  let s := s.setSeq { s.seq with
    endCause := .none, cycle := 0, cur := 0, stopInd := false, state := .running }
  s.forgetTags.runEntries entryTurns

/-- START. -/
def State.startList (s : State) : State :=
  if s.seq.state ≠ .idle then s.answer .busy
  else
    match s.seq.firstBad with
    | some i => s.answerBadList i
    | none => (s.answer .accepted).beginList

/-- START (R56). -/
def execStart (s : State) : Answered := .next s.touch.startList

/-! ## STOP and ABORT (R69, R70, R72, R73) -/

/-- STOP. -/
def State.stopList (s : State) : State :=
  match s.seq.state with
  | .running => ((s.answer .accepted).setStopInd true).stopUnit
  | .stopping => s.answer .accepted
  | .recovery | .postWait => (s.answer .accepted).setStopInd true
  | .frozen | .aborting | .idle => s.answer .busy

/-- STOP (R69). -/
def execStop (s : State) : Answered := .next s.touch.stopList

/-- ABORT. -/
def State.abortList (s : State) : State :=
  match s.seq.state with
  | .running | .stopping | .recovery | .frozen => ((s.answer .accepted).abortEntry).abortingCheck
  | .postWait => ((((s.answer .accepted).abortMotion).setSeqState .aborting)).abortingCheck
  | .aborting => s.answer .accepted
  | .idle => s.answer .idleState

/-- ABORT (R72). -/
def execAbort (s : State) : Answered := .next s.touch.abortList

/-- ABORTING_TO_IDLE (R73). -/
def execAbortingToIdle (s : State) : Answered := .next s.abortingCheck

/-! ## CONTINUE and RETRY (R91, R92) -/

/-- The refusal of CONTINUE and RETRY outside FROZEN. -/
def State.notFrozen (s : State) : State :=
  if s.seq.state = .idle then s.answer .idleState else s.answer .busy

/-- CONTINUE. -/
def State.continueList (s : State) : State :=
  if s.seq.state = .frozen then State.carryOut (s.answer .accepted).skip else s.notFrozen

/-- CONTINUE (R91). -/
def execContinueEpisode (s : State) : Answered := .next s.touch.continueList

/-- The host orders one re-attempt: the budget is not examined, and no recovery entry is current. -/
def State.hostRetry (s : State) : Turn := (s.countAttempt false).reattempt

/-- RETRY. -/
def State.retryUnit (s : State) : State :=
  if s.seq.state = .frozen then State.carryOut (s.answer .accepted).hostRetry else s.notFrozen

/-- RETRY (R92). -/
def execRetry (s : State) : Answered := .next s.touch.retryUnit

end Sys2Proof.Machine
end

