-- ==== Sys2Proof/Machine/Stream.lean ====
section
/-! DEFINITION. The stream port: its settings, its words, its pacing, and STREAM_ON and STREAM_OFF
(R168 to R181). -/

namespace Sys2Proof.Machine

/-! ## Words (R171, R172, R176 to R178) -/

/-- Replace the partial word. -/
def State.setBits (l : List Bool) (s : State) : State := s.setStream { s.stream with bits := l }

/-- Discontinuity becomes pending (R178). -/
def State.discontinue (s : State) : State := s.setStream { s.stream with discontinuity := true }

/-- The byte of eight bits, the first the most significant (R168). -/
def bitsByte (l : List Bool) : Byte := l.foldl (fun b x => (b <<< 1) ||| bitAt 0 x) 0

/-- The fill slot joins the write queue with the discontinuity that was pending (R38, R176, R178). -/
def State.queueStream (n : SlotNo) (s : State) : State :=
  let d := s.stream.discontinuity
  let s := s.editSlot n (fun r => { r with discontinuity := d })
  (s.setPool (s.pool.queueFilled n)).setStream { s.stream with discontinuity := false }

/-- A word is stored high byte first. At STRLEN the slot is queued, a waiting WRITE unit takes it, and
the port makes a new claim (R176). -/
def State.storeWord (bits : List Bool) (s : State) : State :=
  match s.pool.streamFill with
  | none => s
  | some n =>
    let s := s.setPool ((s.pool.append n (bitsByte (bits.take 8))).append n (bitsByte (bits.drop 8)))
    if (s.slot n).length < s.stream.strlen then s
    else ((s.queueStream n).serveHead).streamClaim

/-- A word is lost: discontinuity becomes pending, and STREAM_LOSS is raised once in a starved episode
(R177). -/
def State.loseWord (s : State) : State :=
  let s := s.discontinue
  if s.stream.lossNoted then s
  else (s.setStream { s.stream with lossNoted := true }).raise .streamLoss

/-- A word is complete: it is handed on by the port state, and the partial word is emptied (R171). -/
def State.wordDone (bits : List Bool) (s : State) : State :=
  let s := s.setBits []
  match s.stream.state with
  | .off => s
  | .filling => s.storeWord bits
  | .starved => s.loseWord

/-- One more bit of the word in progress, the sixteenth completing it (R171). -/
def State.addBit (b : Bool) (s : State) : State :=
  let bits := s.stream.bits ++ [b]
  if bits.length < 16 then s.setBits bits else s.wordDone bits

/-- A framing error: the bits are discarded and a new word begins (R172). -/
def State.frameError (b : Bool) (s : State) : State :=
  ((s.discontinue).raise .streamLoss).setBits [b]

/-- A rising edge of SCLK in SLAVE mode (R171, R172). -/
def State.slaveEdge (sfrm b : Bool) (s : State) : State :=
  if sfrm then (if s.stream.bits = [] then s.setBits [b] else s.frameError b)
  else if s.stream.bits = [] then s
  else s.addBit b

/-- A rising edge of SCLK in MASTER mode: the first of an interval is the word start (R173). -/
def State.masterEdge (b : Bool) (s : State) : State :=
  let k := s.stream.edges
  if 16 ≤ k then s
  else
    let start := s.stream.sfrmOut
    let s := s.setStream { s.stream with edges := k + 1 }
    if start then s.setBits [b] else s.addBit b

/-- SCLK_RISING_EDGE (R171). While the port is OFF it takes no notice of the line. -/
def execSclkRisingEdge (sfrm sdin : Bool) (s : State) : Answered :=
  .next <|
    if s.stream.state = .off then s
    else if s.stream.master then s.masterEdge sdin
    else s.slaveEdge sfrm sdin

/-- STREAM_WORD_COMPLETE (R171): the edge that samples bit 0 of a word with fifteen bits assembled. -/
def execStreamWordComplete (sdin : Bool) (s : State) : Answered :=
  .next <|
    if s.stream.state ≠ .off ∧ s.stream.bits.length = 15 then
      if s.stream.master then s.masterEdge sdin else s.slaveEdge false sdin
    else s

/-- FRAMING_ERROR (R172): a word start in SLAVE mode with a partial word. -/
def execFramingError (sdin : Bool) (s : State) : Answered :=
  .next <|
    if s.stream.state ≠ .off ∧ s.stream.master = false ∧ s.stream.bits ≠ [] then s.frameError sdin
    else s

/-! ## Pacing (R173, R174) -/

/-- A word interval begins: the accumulator judges it short or long. -/
def StreamPort.interval (p : StreamPort) : StreamPort :=
  let sum := p.acc + p.fraction
  if 16 ≤ sum then { p with acc := sum - 16, longInterval := true, edges := 0 }
  else { p with acc := sum, longInterval := false, edges := 0 }

/-- PACING_INTERVAL_START (R174). -/
def execPacingIntervalStart (s : State) : Answered :=
  .next <|
    if s.stream.state ≠ .off ∧ s.stream.master = true then s.setStream s.stream.interval else s

/-! ## STREAM_ON and STREAM_OFF (R175, R180) -/

/-- STREAM_ON. -/
def State.streamOn (s : State) : State :=
  if s.stream.state ≠ .off then s.answer .portBusy
  else if s.stream.strlen % 2 = 1 then s.answer .badLength
  else
    let s := s.answer .accepted
    let s := s.setStream { s.stream with
      bits := [], discontinuity := false, lossNoted := false, acc := 0 }
    let s := s.streamClaim
    if s.stream.master then s.setStream s.stream.interval else s

/-- STREAM_ON (R175). -/
def execStreamOn (s : State) : Answered := .next s.touch.streamOn

/-- The port as it returns to OFF (R180). -/
def StreamPort.stopped (p : StreamPort) : StreamPort :=
  { p with state := .off, bits := [], discontinuity := false, lossNoted := false, edges := 0,
           longInterval := false }

/-- The port returns to OFF. -/
def State.portOff (s : State) : State := s.setStream s.stream.stopped

/-- STREAM_OFF: the fill slot is queued, or freed where it holds no word. -/
def State.streamOff (s : State) : State :=
  let s := s.answer .accepted
  if s.stream.state = .off then s
  else
    match s.pool.streamFill with
    | none => s.portOff
    | some n =>
      if (s.slot n).length < 2 then
        let before := s.pool.freeCount
        (s.portOff.setPool (s.pool.toFree .filling n)).serveFreed before
      else ((s.queueStream n).portOff).serveHead

/-- STREAM_OFF (R180). -/
def execStreamOff (s : State) : Answered := .next s.touch.streamOff

/-- STREAM_CLAIM_RETRY (R177). -/
def execStreamClaimRetry (s : State) : Answered := .next s.retryStreamClaim

/-! ## Settings (R170) -/

/-- A setting write is stored while the port is OFF, CLAMPED telling a value stored other than as
written, and is refused otherwise. -/
def State.storeSetting (f : StreamPort → StreamPort) (clamped : Bool) (s : State) : State :=
  if s.stream.state = .off then
    ((s.setStream (f s.stream)).stickIf clamped .clamped).answer .accepted
  else s.answer .portBusy

/-- STRCTL: the mode and the stream reserve. -/
def State.storeStrctl (b : Byte) (s : State) : State :=
  let r := (b.extractLsb' 1 3).toNat
  s.storeSetting (fun p => { p with master := b.getLsbD 0, reserve := min 3 r }) (3 < r)

/-- STRCTL_WRITE (R170). -/
def execStrctlWrite (b : Byte) (s : State) : Answered := .next (s.touch.storeStrctl b)

/-- A value clamped to a range. -/
def clampTo (lo hi v : Nat) : Nat := max lo (min hi v)

/-- STRLEN: the high byte with the held low byte. -/
def State.storeStrlen (b : Byte) (s : State) : State :=
  let v := word16 b s.host.holdStrlen
  s.storeSetting (fun p => { p with strlen := clampTo 2 1024 v }) (clampTo 2 1024 v != v)

/-- STRLEN_WRITE (R170). -/
def execStrlenWrite (b : Byte) (s : State) : Answered := .next (s.touch.storeStrlen b)

/-- The pacing divisor: the high byte with the held low byte. -/
def State.storeDivisor (b : Byte) (s : State) : State :=
  let v := word16 b s.host.holdPace
  s.storeSetting (fun p => { p with divisor := clampTo 16 4095 v }) (clampTo 16 4095 v != v)

/-- PACE_DIVISOR_WRITE (R170). -/
def execPaceDivisorWrite (b : Byte) (s : State) : Answered := .next (s.touch.storeDivisor b)

/-- The pacing fraction. -/
def State.storeFraction (b : Byte) (s : State) : State :=
  s.storeSetting (fun p => { p with fraction := min 15 b.toNat }) (15 < b.toNat)

/-- PACE_FRACTION_WRITE (R170). -/
def execPaceFractionWrite (b : Byte) (s : State) : Answered := .next (s.touch.storeFraction b)

end Sys2Proof.Machine
end

