-- ==== Sys2Proof/Machine/Resets.lean ====
section
/-! DEFINITION. The soft reset and the pin reset (R44, R74, R95, R96, R117, R146, R166, R167, R181,
R193, R194). -/

namespace Sys2Proof.Machine

/-! ## Soft reset (R193) -/

/-- The pool after a soft reset: every slot FREE, its data bytes kept (R44). -/
def Pool.softReset (p : Pool) : Pool := { Pool.reset with data := p.data }

/-- The sequencer after a soft reset (R74). -/
def Sequencer.softReset (q : Sequencer) : Sequencer :=
  { q with
    state := .idle
    stopInd := false
    record := .clear
    work := .none
    recCount := 0
    episode := none
    pendingResult := none
    endCause := if q.state = .idle then q.endCause else .softReset }

/-- The stream port after a soft reset (R181). -/
def StreamPort.softReset (p : StreamPort) : StreamPort := { p.stopped with acc := 0 }

/-- The host port after a soft reset, its answer included (R183, R184, R193). -/
def HostPort.softReset (h : HostPort) : HostPort :=
  { h with
    cmdstat := .accepted, cmdIndex := 0, hoststat := 0, events := 0, results := [], resptr := 0,
    seqIx := 0, xpIx := 0, fillLatch := h.fillLatch.forget, drainLatch := h.drainLatch.forget,
    posLatch := h.posLatch.forget, slotLatch := h.slotLatch.map Latch.forget,
    resFileLatch := h.resFileLatch.forget, resBlockLatch := h.resBlockLatch.forget,
    capLatch := h.capLatch.forget }

/-- What the transport held or timed for the list is dropped (R166). -/
def Transport.dropRequests (x : Transport) : Transport :=
  { x with
    held := none, deferred := [], keptIdle := false, unloadInd := false, lingerTimer := none,
    rewindTimer := none, blankTimer := none }

/-- The transport's motion at a soft reset (R166). -/
def State.softMotion (s : State) : State :=
  match s.xp.motion with
  | .starting | .running | .rewinding => s.stopMotion
  | .unloading => s.enterMotion .stopped s.xp.dir false
  | .fault =>
    s.enterMotion (if s.xp.levels.ready then .stopped else .notReady) s.xp.dir false
  | .stopping | .stopped | .notReady | .noCartridge => s

/-- The transport's requests and timers at a soft reset. -/
def State.resetTransport (s : State) : State := s.setXp s.xp.dropRequests

/-- The sequencer at a soft reset. -/
def State.resetSequencer (s : State) : State := s.setSeq s.seq.softReset

/-- The pool at a soft reset. -/
def State.resetPool (s : State) : State := s.setPool s.pool.softReset

/-- The stream port at a soft reset. -/
def State.resetStream (s : State) : State := s.setStream s.stream.softReset

/-- The host port at a soft reset. -/
def State.resetHost (s : State) : State := s.setHost s.host.softReset

/-- SOFT_RESET: every block in one event. -/
def State.softReset (s : State) : State :=
  (((((((s.channelIdle).softMotion).resetTransport).resetReadChannel).setCapture none).resetSequencer
    ).resetPool).resetStream.resetHost

/-- SOFT_RESET (R193). -/
def execSoftReset (s : State) : Answered := .next s.touch.softReset

/-! ## Pin reset (R167, R194) -/

/-- PIN_RESET (R194): every block in its pin-reset state, the transport as the levels found give it. -/
def execPinReset (lv : Levels) (s : State) : Answered :=
  .next { State.reset with pending := s.pending, xp := .reset lv }

end Sys2Proof.Machine
end

