-- ==== Sys2Proof/Machine/Registers.lean ====
section
/-! DEFINITION. The register map: the codes of CMD, and the accesses to offsets without a row of their
own (R182 to R186, the register map of the layout section). -/

namespace Sys2Proof.Machine

/-- A write of CMD: the code names a command, or is refused (R185). -/
def State.command (c : Byte) (s : State) : State :=
  if c = 0x01 then s.startList
  else if c = 0x02 then s.stopList
  else if c = 0x03 then s.abortList
  else if c = 0x04 then s.continueList
  else if c = 0x05 then s.retryUnit
  else if c = 0x10 then s.claim
  else if c = 0x11 then s.queueFill
  else if c = 0x12 then s.queueMark
  else if c = 0x13 then s.cancelFill
  else if c = 0x14 then s.release
  else if c = 0x15 then s.requeueHeld
  else if c = 0x16 then s.discardHeld
  else if c = 0x17 then s.deliverHeld
  else if c = 0x20 then s.advanceResult
  else if c = 0x21 then s.softReset
  else if c = 0x30 then s.streamOn
  else if c = 0x31 then s.streamOff
  else s.answer .unknownCode

/-- UNKNOWN_CODE (R185). -/
def execUnknownCode (c : Byte) (s : State) : Answered := .next (s.touch.command c)

/-- A write to an offset of the window (the register map). An offset with no register for writing
ignores it. -/
def State.writeRegister (off : BitVec 5) (b : Byte) (s : State) : State :=
  if off = 0x00 then s.command b
  else if off = 0x01 then s.storeCmdarg b
  else if off = 0x02 then s.holdLow .seqctl b
  else if off = 0x03 then s.storeSeqctl b
  else if off = 0x06 then s.storeListptr b
  else if off = 0x07 then s.storeListdata b
  else if off = 0x08 then s.storeTimptr b
  else if off = 0x09 then s.storeTimdata b
  else if off = 0x0A then s.writeData b
  else if off = 0x0B then s.holdLow .strlen b
  else if off = 0x0C then s.storeStrlen b
  else if off = 0x0D then s.holdLow .pace b
  else if off = 0x0E then s.storeDivisor b
  else if off = 0x0F then s.storeFraction b
  else if off = 0x10 then s.storeSlotptr b
  else if off = 0x11 then s.storeResptr b
  else if off = 0x12 then s.storeCapptr b
  else if off = 0x18 then s.clearEvents false b
  else if off = 0x19 then s.clearEvents true b
  else if off = 0x1A then s.storeMask false b
  else if off = 0x1B then s.storeMask true b
  else if off = 0x1C then s.clearHoststat b
  else if off = 0x1E then s.storeStrctl b
  else if off = 0x1F then s.storeTag b
  else s

/-- OTHER_REGISTER_WRITE (R182). -/
def execOtherRegisterWrite (off : BitVec 5) (b : Byte) (s : State) : Answered :=
  .next (s.touch.writeRegister off b)

/-- A read of an offset of the window (the register map). -/
def State.readRegister (off : BitVec 5) (s : State) : State :=
  if off = 0x00 then s.drive s.host.cmdstatByte
  else if off = 0x01 then s.drive s.host.cmdarg
  else if off = 0x02 then s.drive s.seq.ctl.low
  else if off = 0x03 then s.drive s.seq.ctl.high
  else if off = 0x04 then s.readSeqstat
  else if off = 0x05 then s.drive s.seq.endCause.code
  else if off = 0x06 then s.drive (loByte s.seq.listptr.val)
  else if off = 0x07 then s.readListdata
  else if off = 0x08 then s.drive (loByte s.xp.timptr.val)
  else if off = 0x09 then s.readTimdata
  else if off = 0x0A then s.readData
  else if off = 0x0B then s.readFillcnt
  else if off = 0x0C then s.drive (s.host.fillLatch.shown (hiByte s.pool.fillCount))
  else if off = 0x0D then s.readDraincnt
  else if off = 0x0E then s.drive (s.host.drainLatch.shown (hiByte s.pool.drainCount))
  else if off = 0x0F then s.drive (loByte s.host.results.length)
  else if off = 0x10 then s.readSlotrec
  else if off = 0x11 then s.readResdata
  else if off = 0x12 then s.readCapdata
  else if off = 0x13 then s.readPos
  else if off = 0x14 then s.drive (s.posByte 1)
  else if off = 0x15 then s.drive (s.posByte 2)
  else if off = 0x16 then s.drive (s.posByte 3)
  else if off = 0x17 then s.drive (s.posByte 4)
  else if off = 0x18 then s.drive (eventByte false s.host.events)
  else if off = 0x19 then s.drive (eventByte true s.host.events)
  else if off = 0x1A then s.drive (eventByte false s.host.evmask)
  else if off = 0x1B then s.drive (eventByte true s.host.evmask)
  else if off = 0x1C then s.drive (s.host.hoststat.setWidth 8)
  else if off = 0x1D then s.readXpstat
  else if off = 0x1E then s.drive s.stream.strctl
  else s.drive s.pool.tag

/-- OTHER_REGISTER_READ (R184). -/
def execOtherRegisterRead (off : BitVec 5) (s : State) : Answered :=
  .next (if off = 0x04 ∨ off = 0x1D then s.readRegister off else s.touch.readRegister off)

end Sys2Proof.Machine
end

