-- ==== Sys2Proof/Machine/Dispatch.lean ====
section
/-! DEFINITION. The dispatch: one arm for each command, each a direct call of its meaning. -/

namespace Sys2Proof.Machine

/-- The effect of a command on everything but the queue. -/
def exec (i : Instr) (s : State) : Host.Outcome State Fault Refusal :=
  match i with
  | .start => Sys2Proof.Machine.execStart s
  | .stop => Sys2Proof.Machine.execStop s
  | .abort => Sys2Proof.Machine.execAbort s
  | .continueEpisode => Sys2Proof.Machine.execContinueEpisode s
  | .retry => Sys2Proof.Machine.execRetry s
  | .claim => Sys2Proof.Machine.execClaim s
  | .queue => Sys2Proof.Machine.execQueue s
  | .queueMark => Sys2Proof.Machine.execQueueMark s
  | .cancelFill => Sys2Proof.Machine.execCancelFill s
  | .release => Sys2Proof.Machine.execRelease s
  | .requeueHeld => Sys2Proof.Machine.execRequeueHeld s
  | .discardHeld => Sys2Proof.Machine.execDiscardHeld s
  | .deliverHeld => Sys2Proof.Machine.execDeliverHeld s
  | .resultAdvance => Sys2Proof.Machine.execResultAdvance s
  | .softReset => Sys2Proof.Machine.execSoftReset s
  | .streamOn => Sys2Proof.Machine.execStreamOn s
  | .streamOff => Sys2Proof.Machine.execStreamOff s
  | .unknownCode code => Sys2Proof.Machine.execUnknownCode code s
  | .listptrWrite b => Sys2Proof.Machine.execListptrWrite b s
  | .listdataRead => Sys2Proof.Machine.execListdataRead s
  | .listdataWrite b => Sys2Proof.Machine.execListdataWrite b s
  | .seqctlWrite b => Sys2Proof.Machine.execSeqctlWrite b s
  | .lowByteHoldWrite r b => Sys2Proof.Machine.execLowByteHoldWrite r b s
  | .timptrWrite b => Sys2Proof.Machine.execTimptrWrite b s
  | .timdataRead => Sys2Proof.Machine.execTimdataRead s
  | .timdataWrite b => Sys2Proof.Machine.execTimdataWrite b s
  | .dataWrite b => Sys2Proof.Machine.execDataWrite b s
  | .dataRead => Sys2Proof.Machine.execDataRead s
  | .strlenWrite b => Sys2Proof.Machine.execStrlenWrite b s
  | .paceDivisorWrite b => Sys2Proof.Machine.execPaceDivisorWrite b s
  | .paceFractionWrite b => Sys2Proof.Machine.execPaceFractionWrite b s
  | .strctlWrite b => Sys2Proof.Machine.execStrctlWrite b s
  | .tagWrite b => Sys2Proof.Machine.execTagWrite b s
  | .slotptrWrite b => Sys2Proof.Machine.execSlotptrWrite b s
  | .slotrecRead => Sys2Proof.Machine.execSlotrecRead s
  | .resptrWrite b => Sys2Proof.Machine.execResptrWrite b s
  | .resdataRead => Sys2Proof.Machine.execResdataRead s
  | .capptrWrite b => Sys2Proof.Machine.execCapptrWrite b s
  | .capdataRead => Sys2Proof.Machine.execCapdataRead s
  | .posRead => Sys2Proof.Machine.execPosRead s
  | .fillcntRead => Sys2Proof.Machine.execFillcntRead s
  | .draincntRead => Sys2Proof.Machine.execDraincntRead s
  | .seqstatRead => Sys2Proof.Machine.execSeqstatRead s
  | .xpstatRead => Sys2Proof.Machine.execXpstatRead s
  | .eventsClear hi b => Sys2Proof.Machine.execEventsClear hi b s
  | .evmaskWrite hi b => Sys2Proof.Machine.execEvmaskWrite hi b s
  | .hoststatClear b => Sys2Proof.Machine.execHoststatClear b s
  | .otherRegisterWrite off b => Sys2Proof.Machine.execOtherRegisterWrite off b s
  | .pinReset lv => Sys2Proof.Machine.execPinReset lv s
  | .presentFall => Sys2Proof.Machine.execPresentFall s
  | .presentRise => Sys2Proof.Machine.execPresentRise s
  | .readyFall => Sys2Proof.Machine.execReadyFall s
  | .readyRise => Sys2Proof.Machine.execReadyRise s
  | .wpermitFall => Sys2Proof.Machine.execWpermitFall s
  | .wpermitRise => Sys2Proof.Machine.execWpermitRise s
  | .bomRise => Sys2Proof.Machine.execBomRise s
  | .bomFall => Sys2Proof.Machine.execBomFall s
  | .ewRise => Sys2Proof.Machine.execEwRise s
  | .ewFall => Sys2Proof.Machine.execEwFall s
  | .eomRise => Sys2Proof.Machine.execEomRise s
  | .eomFall => Sys2Proof.Machine.execEomFall s
  | .streamWordComplete sdin => Sys2Proof.Machine.execStreamWordComplete sdin s
  | .framingError sdin => Sys2Proof.Machine.execFramingError sdin s
  | .pacingIntervalStart => Sys2Proof.Machine.execPacingIntervalStart s
  | .readHeadRow strict lenient => Sys2Proof.Machine.execReadHeadRow strict lenient s
  | .gapTimerExpiry => Sys2Proof.Machine.execGapTimerExpiry s
  | .checkGroupWritten => Sys2Proof.Machine.execCheckGroupWritten s
  | .postambleWritten => Sys2Proof.Machine.execPostambleWritten s
  | .verifyWatchOpen => Sys2Proof.Machine.execVerifyWatchOpen s
  | .verifyDeadline => Sys2Proof.Machine.execVerifyDeadline s
  | .eraseTimerExpiry => Sys2Proof.Machine.execEraseTimerExpiry s
  | .startRampExpiry => Sys2Proof.Machine.execStartRampExpiry s
  | .stopRampExpiry => Sys2Proof.Machine.execStopRampExpiry s
  | .lingerExpiry => Sys2Proof.Machine.execLingerExpiry s
  | .rewindLimitExpiry => Sys2Proof.Machine.execRewindLimitExpiry s
  | .blankWindowExpiry => Sys2Proof.Machine.execBlankWindowExpiry s
  | .readClaimServed => Sys2Proof.Machine.execReadClaimServed s
  | .streamClaimRetry => Sys2Proof.Machine.execStreamClaimRetry s
  | .waitingHeadTaken => Sys2Proof.Machine.execWaitingHeadTaken s
  | .pendingResultPosted => Sys2Proof.Machine.execPendingResultPosted s
  | .abortingToIdle => Sys2Proof.Machine.execAbortingToIdle s
  | .heldRequestAnswered => Sys2Proof.Machine.execHeldRequestAnswered s
  | .deferredRequestTaken => Sys2Proof.Machine.execDeferredRequestTaken s
  | .keptIdleReportTaken => Sys2Proof.Machine.execKeptIdleReportTaken s
  | .ejectPhaseBegin => Sys2Proof.Machine.execEjectPhaseBegin s
  | .gapBeginOnRunning => Sys2Proof.Machine.execGapBeginOnRunning s
  | .erasingBeginOnRunning => Sys2Proof.Machine.execErasingBeginOnRunning s
  | .blockOpenOnClassify => Sys2Proof.Machine.execBlockOpenOnClassify s
  | .sclkRisingEdge sfrm sdin => Sys2Proof.Machine.execSclkRisingEdge sfrm sdin s
  | .otherRegisterRead off => Sys2Proof.Machine.execOtherRegisterRead off s

end Sys2Proof.Machine
end

