-- ==== Sys2Proof/Safety.lean ====
section
/-! DEFINITION. What a lawful state is: the ranges and the relations between the parts of the state that
the manual gives the part, in the terms that claims use. -/

namespace Sys2Proof.Machine

/-- Every listed address of a store lies below a bound. -/
abbrev Memory.within (n : Nat) (m : Memory) : Prop := ∀ c ∈ m, c.1 < n

/-- Both addressed stores are in their canonical form and list no address beyond their bytes: 8 slots
of 1,024 bytes (R17), and the 48 bytes of list memory (R45). -/
abbrev State.storesLawful (s : State) : Prop :=
  s.pool.data.wf = true ∧ s.pool.data.within 8192 ∧ s.seq.listMem.wf = true ∧ s.seq.listMem.within 48

/-- The result queue holds 16 results at most (R189). -/
abbrev State.resultsLawful (s : State) : Prop := s.host.results.length ≤ Config.resultRoom

/-- Each queue of the pool holds the slots of its state, each once: the write queue the QUEUED slots,
the read queue the READY slots (R18, R24, R30). -/
abbrev Pool.queuesLawful (p : Pool) : Prop :=
  p.writeQ.Nodup ∧ p.readQ.Nodup ∧ (∀ n, n ∈ p.writeQ ↔ (p.get n).state = .queued) ∧
    ∀ n, n ∈ p.readQ ↔ (p.get n).state = .ready

/-- A number of a file or of a block, where it is present, is 65,535 at most (R135). -/
abbrev numberLawful (n : Option Nat) : Prop := ∀ k ∈ n, k ≤ Config.positionMax

/-- The position record (R135): the file is absent exactly while the zone is UNKNOWN, and so then is the
block; and the file map is as R143 has it. -/
abbrev Position.lawful (p : Position) : Prop :=
  (p.zone = .unknown ↔ p.file = none) ∧ (p.file = none → p.block = none) ∧ numberLawful p.file ∧
    numberLawful p.block ∧ mapWf p.map = true ∧ ∀ e ∈ p.map, e.1 ≤ Config.positionMax ∧
      e.2 ≤ Config.positionMax

/-- Every entry of the timing table lies in its range (R152). -/
abbrev Timing.lawful (t : Timing) : Prop :=
  ∀ i, timingLeast i ≤ t.get i ∧ t.get i ≤ timingGreatest i

/-- The gates (R96, R97): a gate is on only while the transport is RUNNING forward with WPERMIT present;
the write gate only in BLOCK, and the erase gate never in IDLE. The run indication is set only while the
erase gate is on. -/
abbrev State.gatesLawful (s : State) : Prop :=
  (s.wch.wgate = true → s.mayGate = true ∧ s.wch.phase = .block) ∧
    (s.wch.egate = true → s.mayGate = true ∧ s.wch.phase ≠ .idle) ∧
      (s.wch.run = true → s.wch.egate = true)

/-- The stream port's settings lie in their ranges (R170), the pacing accumulator in 0 to 15 (R174), and
the partial word holds fewer than sixteen bits (R171). -/
abbrev StreamPort.lawful (p : StreamPort) : Prop :=
  p.reserve ≤ 3 ∧ (2 ≤ p.strlen ∧ p.strlen ≤ 1024) ∧ (16 ≤ p.divisor ∧ p.divisor ≤ 4095) ∧
    p.fraction ≤ 15 ∧ p.acc ≤ 15 ∧ p.bits.length < 16

/-- A state that keeps every law. -/
structure State.Lawful (s : State) : Prop where
  stores : s.storesLawful
  results : s.resultsLawful
  queues : s.pool.queuesLawful
  position : s.pos.lawful
  timing : s.xp.timing.lawful
  gates : s.gatesLawful
  stream : s.stream.lawful

/-! ## The stream port, as claims say it -/

/-- The word that bits spell, the first the most significant (R168). -/
def bitsValue (l : List Bool) : Nat := l.foldl (fun v b => 2 * v + b.toNat) 0

/-- How many of the next intervals are long (R174). -/
def StreamPort.longIntervals : Nat → StreamPort → Nat
  | 0, _ => 0
  | k + 1, p => p.interval.longInterval.toNat + StreamPort.longIntervals k p.interval

/-! ## The end of a list, as claims say it -/

/-- From `s`, the list has ended in `t` with a cause after posting one result of an outcome (R64 to R67):
the result is the queue's new tail, RESULT_POSTED and LIST_ENDED are set, and list memory stays. -/
abbrev State.listEndedWith (s t : State) (r : Result) (o : EntryOutcome) (c : EndCause) : Prop :=
  t.host.results = s.host.results ++ [r] ∧ r.outcome = o ∧ t.event .resultPosted = true ∧
    t.event .listEnded = true ∧ t.seq.state = .idle ∧ t.seq.episode = none ∧ t.seq.endCause = c ∧
    t.seq.listMem = s.seq.listMem ∧ t.pending = s.pending

/-! ## Entries and units that go on, as claims say it -/

/-- The current entry is the last of a list in SINGLE mode (R64, steps 5 and 8). -/
abbrev State.lastEntry (s : State) : Prop :=
  s.seq.ctl.mainLength ≤ s.seq.cur.val + 1 ∧ s.seq.ctl.cycle = false

/-- Another entry follows the current one: the next of the list, or M0 in CYCLE mode (R64, steps 7 and
9). -/
abbrev State.entryFollows (s : State) : Prop :=
  s.seq.cur.val + 1 < s.seq.ctl.mainLength ∨ s.seq.ctl.cycle = true

/-- The index of the entry that follows: the next one, and after the last M0 (R64). -/
def State.nextIndex (s : State) : Fin 8 :=
  if s.seq.cur.val + 1 < s.seq.ctl.mainLength then s.seq.cur + 1 else 0

/-- The entry that follows is a SPACE_FWD or a SEEK_FWD, whose units are the work `w`. -/
abbrev State.passFollows (s : State) (w : Work) : Prop :=
  s.entryFollows ∧
    (((s.seq.main s.nextIndex.val).opcode = 0x04 ∧ w = .space .forward) ∨
      ((s.seq.main s.nextIndex.val).opcode = 0x06 ∧ w = .seek .forward))

/-- From `s`, the list has gone on in `t` to the entry that follows, whose unit is the work `w` (R47,
R64): the entry record is fresh, the cycle count has risen by one where M0 follows the last entry, and
LIST_ENDED is as it was. -/
abbrev State.wentOn (s t : State) (w : Work) : Prop :=
  t.seq.state = .running ∧ t.seq.cur = s.nextIndex ∧ t.seq.record = .clear ∧ t.seq.work = w ∧
    t.seq.cycle = (if s.seq.cur.val + 1 < s.seq.ctl.mainLength then s.seq.cycle
      else s.seq.cycle + 1) ∧
    t.seq.stopInd = s.seq.stopInd ∧ t.seq.endCause = s.seq.endCause ∧
    t.seq.listMem = s.seq.listMem ∧ t.event .listEnded = s.event .listEnded ∧ t.pending = s.pending

/-- From `s`, the current entry has ended in `t` with one result of an outcome, and the list has gone on
to the entry that follows (R64, R66, R67). -/
abbrev State.wentOnWith (s t : State) (r : Result) (o : EntryOutcome) (w : Work) : Prop :=
  t.host.results = s.host.results ++ [r] ∧ r.outcome = o ∧ r.index = s.seq.cur ∧
    r.cycle = s.seq.cycle ∧ t.event .resultPosted = true ∧ s.wentOn t w

/-- The unit that is done now is not the last of its entry (R48 to R55, R71): the count is not reached,
EW does not end the entry, and no STOP has been taken. -/
abbrev State.unitFollows (s : State) : Prop :=
  (s.entry.count = 0 ∨ s.seq.record.unitsDone + 1 < s.entry.count.toNat) ∧
    (s.entry.stopAtEw = true → s.seq.record.ewPassed = false) ∧ s.seq.stopInd = false

/-- The sequencer's record once a unit is done and the next one, the work `w`, has begun (R47). -/
def Sequencer.unitDone (q : Sequencer) (w : Work) : Sequencer :=
  { q with work := w, record := { q.record with unitsDone := bump q.record.unitsDone } }

/-! ## What a terminal change leaves of the unit, as claims say it -/

/-- The pool once the running unit is dropped (R28, R30, R62): a write slot is at the head of the write
queue, a read slot FREE, and no other unit holds a slot. -/
abbrev State.unitGivesBack (s : State) (p : Pool) : Prop :=
  (∃ n, s.seq.work = .writeSlot n ∧ (s.slot n).state = .active ∧
    p = { s.pool.put n { s.slot n with state := .queued } with writeQ := n :: s.pool.writeQ }) ∨
  (∃ n, s.seq.work = .read n ∧ (s.slot n).state = .active ∧ s.stream.state ≠ .starved ∧
    p = s.pool.put n SlotRecord.free) ∨
  (∀ n, s.seq.work ≠ .writeSlot n ∧ s.seq.work ≠ .read n) ∧ p = s.pool

/-- The pool once an episode has ended terminally (R83): a write slot is HELD, a mark keeps nothing, and
a read slot is at the tail of the read queue, DAMAGED where it had no class. -/
abbrev State.episodeGivesBack (s : State) (e : Episode) (p : Pool) : Prop :=
  (∃ n, e.kind = .write ∧ e.slot = some n ∧ (s.slot n).state = .active ∧
    p = s.pool.put n { s.slot n with state := .held }) ∨
  (e.kind = .mark ∧ p = s.pool) ∨
  ∃ n, e.kind = .read ∧ e.slot = some n ∧ (s.slot n).state = .active ∧
    p = { s.pool.put n { s.slot n with
        state := .ready
        read := { (s.slot n).read.flagged with cls := some ((s.slot n).read.cls.getD .damaged) } } with
      readQ := s.pool.readQ ++ [n]
      drain := if s.pool.readQ = [] then 0 else s.pool.drain }

/-- The pool once a terminal change has ended the current entry, in a unit, a wait or an episode (R62,
R83). -/
abbrev State.entryGivesBack (s : State) (p : Pool) : Prop :=
  (s.seq.state ∈ [.running, .stopping] ∧ s.seq.episode = none ∧ s.unitGivesBack p) ∨
    (s.seq.state ∈ [.recovery, .frozen] ∧ ∃ e, s.seq.episode = some e ∧ s.episodeGivesBack e p)

/-! ## The end of a read-back, as claims say it -/

/-- One silent row more ends the verify burst of the unit `u`, which gave every frame GOOD (R103 to
R105). -/
abbrev State.cleanRowDue (s : State) (u : WUnit) : Prop :=
  ∃ v, s.wch.phase = .after ∧ s.wch.unit = some u ∧ s.wch.verify = some v ∧ v.watch = .sensing ∧
    v.weak = false ∧ v.bad = false ∧ v.captureTaken = false ∧ 0 < v.silentRun ∧
    v.lastSilent = true ∧ v.compared = v.frames.length + v.silentRun ∧
    v.silence.toNat ≤ v.silentRun + 1

/-! ## Deferred requests, as claims say it -/

/-- The position once the deferred requests have been taken (R156, R157): a deferred REVERSE that finds
BOM present is BOM reached. -/
def State.posSpent (s : State) : Position :=
  if .reverse ∈ s.xp.deferred ∧ s.xp.levels.bom = true then s.pos.bomReached else s.pos

/-- The motion state once a STOP request has been taken (R155). -/
def Motion.afterStop : Motion → Motion
  | .starting | .running | .rewinding | .stopping => .stopping
  | .unloading | .stopped => .stopped
  | .noCartridge => .noCartridge
  | .notReady => .notReady
  | .fault => .fault

/-- From `s`, a STOP request has been taken in `t` that no BLOCK defers, after the deferred requests
(R155, R157): a ramp begins or goes on, and at rest nothing changes. -/
abbrev State.stopTaken (s t : State) : Prop :=
  t.xp.motion = s.xp.motion.afterStop ∧ t.xp.dir = s.xp.dir ∧ t.xp.deferred = [] ∧
    (s.xp.motion ∈ [.starting, .running, .rewinding] →
      t.xp.rampTimer = some s.xp.timing.stopRamp) ∧
    (s.xp.motion = .stopping → t.xp.rampTimer = s.xp.rampTimer) ∧
    (s.xp.motion = .rewinding → t.xp.fast = true) ∧
    (s.xp.motion ∈ [.rewinding, .unloading] → t.xp.rewindTimer = none) ∧
    (s.xp.motion ∈ [.starting, .running, .rewinding, .stopping, .unloading] → t.xp.held = none) ∧
    (s.xp.motion ∈ [.rewinding, .stopping, .unloading] → t.xp.unloadInd = false) ∧
    t.xp.levels = s.xp.levels ∧ t.xp.timing = s.xp.timing

/-! ## What an access leaves in the host port, as claims say it -/

/-- The host port after an access, which sets both sequence indexes to 0 (R184). -/
def HostPort.accessed (h : HostPort) : HostPort := { h with seqIx := 0, xpIx := 0 }

/-- The host port after an access answered in CMDSTAT (R186). -/
def HostPort.answered (h : HostPort) (a : Answer) : HostPort :=
  { h.accessed with cmdstat := a, cmdIndex := 0 }

/-- The host port after a read that drives a byte on D0-D7 (R182). -/
def HostPort.drove (h : HostPort) (b : Byte) : HostPort := { h.accessed with busOut := b }

/-- The host port with a sticky flag of HOSTSTAT set where a condition holds (R187). -/
def HostPort.stuck (h : HostPort) (c : Bool) (f : HostFlag) : HostPort :=
  if c then { h with hoststat := h.hoststat ||| f.mask } else h

/-- The host port with an event flag set (R191). -/
def HostPort.flagged (h : HostPort) (e : Event) : HostPort :=
  { h with events := h.events ||| e.mask }

end Sys2Proof.Machine
end

