-- ==== Sys2Proof/Certificates/Slice0/Obligations.lean ====
section
/-! DEFINITION. The statements put to the provers. -/

open Sys2Proof Sys2Proof.Machine

/-! ## The queue and the resets -/

/-- A step takes the command at the front of the queue and performs it on the state with the queue's
rest; with nothing waiting the block idles (log entry 4). -/
def Obligations.StepPerformsFrontCommand : Prop :=
  (∀ c rest (s : State), s.pending = c :: rest → step s = exec c { s with pending := rest }) ∧
    ∀ s : State, s.pending = [] → step s = .next s

/-- Every command takes a next state from every state, and none touches the queue of waiting
commands. -/
def Obligations.EveryCommandCompletes : Prop :=
  ∀ c s, ∃ t, exec c s = .next t ∧ t.pending = s.pending

/-- PIN_RESET puts every block in its pin-reset state, whatever the state before: the pool (R44), the
sequencer with its list memory and its entry record (R46, R74), the write channel (R96), the read
channel (R117), the position tracker (R146), the transport, which takes the levels as it finds them
(R152, R167), the stream port with SCLK and SFRM as inputs (R168, R169, R181), and the host port with
its window pointers, its indexes, and its latches and holding registers at 00h (R188, R194). Every
output line is released. Open values are the model's choice and stay out: D0-D7 (log entry 2). -/
def Obligations.PinResetSetsEveryBlock : Prop :=
  ∀ lv (s : State), ∃ t, exec (.pinReset lv) s = .next t ∧ t.pending = s.pending ∧
    t.pool = { slots := Vector.replicate 8 SlotRecord.free, data := [], writeQ := [], readQ := [],
               tag := 0, drain := 0 } ∧
    (∀ k, t.seq.listMem.read k = 0) ∧
    t.seq = {
      listMem := [], listptr := 0
      ctl := { mainLength := 1, recLength := 0, cycle := false, freezeOnFailure := false }
      state := .idle, stopInd := false, cur := 0
      record := { unitsDone := 0, skipped := 0, retries := 0, dropped := 0, marginalSeen := false,
                  ewPassed := false, recoveredSeen := false }
      work := .none, recCount := 0, episode := none, pendingResult := none, cycle := 0
      endCause := .none } ∧
    t.wch = {
      phase := .idle, unit := none, held := none, checkWritten := false, wgate := false
      egate := false, run := false, gapTimer := .stopped, eraseTimer := none, watchTimer := none
      deadline := none, verify := none } ∧
    t.rch = {
      phase := .silent, cand := none, patRows := [], rowsAfter := 0, silentRows := []
      silence := t.rch.silence, window := []
      asm := { header := [], headerError := false, fallback := 0, errors := 0, lrc := 0
               crc := 0xFFFF, committed := 0, overlength := false, captureTaken := false
               firstRow := (0, 0), overRow := (0, 0) }
      eligible := false, target := none, straddle := none, tagMem := none, framePeriod := 50 } ∧
    t.capture = none ∧
    t.pos = { zone := .unknown, file := none, block := none, map := [] } ∧
    t.xp = {
      motion := if lv.present = false then .noCartridge
        else if lv.ready = false then .notReady else .stopped
      dir := .forward, fast := false, held := none, deferred := [], keptIdle := false
      unloadInd := false, rampTimer := none, lingerTimer := none, rewindTimer := none
      blankTimer := none, levels := lv
      timing := { startRamp := 80, stopRamp := 60, writeGap := 120, verifyLag := 40
                  readSilence := 4, blankWindow := 200, eraseLength := 90, rewindLimit := 120
                  linger := 30, frameDiv := 50 }
      timptr := 0 } ∧
    t.xp.motionLine = false ∧ t.xp.reverseLine = false ∧ t.xp.fastLine = false ∧
    t.xp.unloadLine = false ∧
    t.stream = {
      state := .off, master := false, reserve := 1, strlen := 512, divisor := 250, fraction := 0
      acc := 0, bits := [], discontinuity := false, lossNoted := false, edges := t.stream.edges
      longInterval := t.stream.longInterval } ∧
    t.stream.clockDrive = .input ∧ t.stream.srdy = false ∧
    t.host = {
      cmdstat := .none, cmdIndex := 0, cmdarg := 0, hoststat := 0, events := 0, evmask := 0
      results := [], slotSel := 0, slotIx := 0, resptr := 0, capptr := 0
      seqIx := 0, seqLatch := [0, 0, 0, 0, 0], xpIx := 0, xpLatch := [0, 0, 0]
      fillLatch := { value := 0, loaded := false }, drainLatch := { value := 0, loaded := false }
      posLatch := { value := [0, 0, 0, 0], loaded := false }
      slotLatch := Vector.replicate 24 { value := 0, loaded := false }
      resFileLatch := { value := 0, loaded := false }
      resBlockLatch := { value := 0, loaded := false }
      capLatch := { value := [0, 0, 0, 0, 0, 0], loaded := false }
      holdSeqctl := 0, holdStrlen := 0, holdPace := 0, busOut := t.host.busOut } ∧
    t.irqAsserted = false

/-- SOFT_RESET is accepted in every state, and in one event puts each block in the state the table
of R193 gives, with what the table keeps: the entry record is cleared, the current entry and the
cycle count stay (R74), the transport's requests, indications and timers for the list go and its
direction stays (R166), and no read latch is loaded, so that each byte reads the current value
(R183). -/
def Obligations.SoftResetActsOnEveryBlock : Prop :=
  ∀ s : State, ∃ t, exec .softReset s = .next t ∧ t.host.cmdstat = .accepted ∧ t.host.cmdIndex = 0 ∧
    t.seq.state = .idle ∧ t.seq.episode = none ∧ t.seq.pendingResult = none ∧
    t.seq.stopInd = false ∧ t.seq.record = .clear ∧ t.seq.work = .none ∧ t.seq.cur = s.seq.cur ∧
    t.seq.cycle = s.seq.cycle ∧
    t.seq.endCause = (if s.seq.state = .idle then s.seq.endCause else .softReset) ∧
    t.seq.listMem = s.seq.listMem ∧ t.seq.listptr = s.seq.listptr ∧ t.seq.ctl = s.seq.ctl ∧
    t.wch.phase = .idle ∧ t.wch.wgate = false ∧ t.wch.egate = false ∧ t.wch.run = false ∧
    t.wch.unit = none ∧ t.wch.verify = none ∧
    t.rch.phase = .silent ∧ t.rch.tagMem = none ∧ t.rch.straddle = none ∧ t.capture = none ∧
    t.xp.timing = s.xp.timing ∧ t.xp.timptr = s.xp.timptr ∧ t.xp.levels = s.xp.levels ∧
    t.xp.held = none ∧ t.xp.deferred = [] ∧ t.xp.keptIdle = false ∧ t.xp.unloadInd = false ∧
    t.xp.lingerTimer = none ∧ t.xp.rewindTimer = none ∧ t.xp.blankTimer = none ∧
    t.xp.dir = s.xp.dir ∧
    t.xp.motion = (match s.xp.motion with
      | .starting | .running | .rewinding | .stopping => .stopping
      | .unloading | .stopped => .stopped
      | .fault => if s.xp.levels.ready then .stopped else .notReady
      | .notReady => .notReady
      | .noCartridge => .noCartridge) ∧
    (∀ n, t.slot n = SlotRecord.free) ∧ t.pool.data = s.pool.data ∧ t.pool.writeQ = [] ∧
    t.pool.readQ = [] ∧ t.pool.tag = 0 ∧ t.pool.drain = 0 ∧
    t.stream.state = .off ∧ t.stream.master = s.stream.master ∧
    t.stream.reserve = s.stream.reserve ∧ t.stream.strlen = s.stream.strlen ∧
    t.stream.divisor = s.stream.divisor ∧ t.stream.fraction = s.stream.fraction ∧
    t.stream.acc = 0 ∧ t.stream.bits = [] ∧ t.stream.discontinuity = false ∧
    t.stream.lossNoted = false ∧ t.stream.srdy = false ∧
    t.stream.clockDrive = (if s.stream.master then .low else .input) ∧ t.pos = s.pos ∧
    t.host.results = [] ∧ t.host.events = 0 ∧ t.host.hoststat = 0 ∧ t.host.resptr = 0 ∧
    t.host.seqIx = 0 ∧ t.host.xpIx = 0 ∧ t.host.evmask = s.host.evmask ∧
    t.host.cmdarg = s.host.cmdarg ∧ t.host.slotSel = s.host.slotSel ∧
    t.host.slotIx = s.host.slotIx ∧ t.host.capptr = s.host.capptr ∧
    t.host.holdSeqctl = s.host.holdSeqctl ∧ t.host.holdStrlen = s.host.holdStrlen ∧
    t.host.holdPace = s.host.holdPace ∧ t.host.fillLatch.loaded = false ∧
    t.host.drainLatch.loaded = false ∧ t.host.posLatch.loaded = false ∧
    (∀ i : Fin 24, t.host.slotLatch[i].loaded = false) ∧ t.host.resFileLatch.loaded = false ∧
    t.host.resBlockLatch.loaded = false ∧ t.host.capLatch.loaded = false ∧ t.pending = s.pending

/-- The state after reset keeps every law. -/
def Obligations.ResetStateIsLawful : Prop := State.reset.Lawful

/-! ## The host port -/

/-- EVENTS and EVMASK (R191, R192): a write to an EVENTS byte clears the flags whose bits are 1 and
leaves the others; a write to an EVMASK byte stores it, and it reads back as stored; the flags stand
in the places of the layout; IRQN is asserted exactly while some flag is set and enabled; a pin
reset leaves EVMASK 0, a soft reset keeps it, and both release IRQN. -/
def Obligations.EventFlagsAndInterruptLine : Prop :=
  (∀ hi b (s : State), exec (.eventsClear hi b) s = .next { s with host :=
    { s.host.accessed with events := s.host.events &&&
      ~~~ (if hi then (b.extractLsb' 0 1) ++ (0 : BitVec 8) else (0 : BitVec 1) ++ b) } }) ∧
  (∀ hi b (s : State), ∃ t, exec (.evmaskWrite hi b) s = .next t ∧
    t = { s with host := { s.host.accessed with evmask := t.host.evmask } } ∧
    (∀ i, i < 8 → t.host.evmask.getLsbD i = if hi then s.host.evmask.getLsbD i else b.getLsbD i) ∧
    t.host.evmask.getLsbD 8 = (if hi then b.getLsbD 0 else s.host.evmask.getLsbD 8) ∧
    ∃ u, exec (.otherRegisterRead (if hi then 0x1B else 0x1A)) t = .next u ∧
      u.host.busOut = if hi then b &&& 1 else b) ∧
  (∀ s : State, s.irqAsserted = true ↔
    ∃ i, i < 9 ∧ s.host.events.getLsbD i = true ∧ s.host.evmask.getLsbD i = true) ∧
  [Event.resultPosted, .resultStall, .listEnded, .frozenEntered, .readAvailable, .slotFreed,
    .streamLoss, .ew, .cartridgeChange].map Event.mask = [1, 2, 4, 8, 16, 32, 64, 128, 256] ∧
  (∀ lv (s : State), ∃ t, exec (.pinReset lv) s = .next t ∧ t.host.evmask = 0 ∧
    t.irqAsserted = false) ∧
  ∀ s : State, ∃ t, exec .softReset s = .next t ∧ t.host.evmask = s.host.evmask ∧
    t.irqAsserted = false

/-- The writes that a register of the host port takes whole (R183, R185, R187): HOSTSTAT's flags, in
the places of the layout, cleared where the bit is 1, the low byte of a two-byte setting held, and
CMDARG stored; a write to an offset without a register for writing changes only the sequence indexes
(R184). That the low byte of SEQCTL is held in every sequencer state, with no LIST_LOCKED, is the
model's reading (log entry 19). A write of CMD with a code that names no command is refused with
UNKNOWN_CODE, and nothing but CMDSTAT and the sequence indexes changes (R184, R186). That CMDSTAT
shows index 0 with a refusal is the model's reading (log entry 39). -/
def Obligations.SmallRegisterWrites : Prop :=
  (∀ b (s : State), exec (.hoststatClear b) s = .next { s with host :=
    { s.host.accessed with hoststat := s.host.hoststat &&& ~~~ b.extractLsb' 0 4 } }) ∧
  (∀ b (s : State), exec (.lowByteHoldWrite .seqctl b) s = .next { s with host :=
    { s.host.accessed with holdSeqctl := b } }) ∧
  (∀ b (s : State), exec (.lowByteHoldWrite .strlen b) s = .next { s with host :=
    { s.host.accessed with holdStrlen := b } }) ∧
  (∀ b (s : State), exec (.lowByteHoldWrite .pace b) s = .next { s with host :=
    { s.host.accessed with holdPace := b } }) ∧
  (∀ b (s : State), exec (.otherRegisterWrite 0x01 b) s = .next { s with host :=
    { s.host.accessed with cmdarg := b } }) ∧
  (∀ off b (s : State), (Instr.otherRegisterWrite off b).wellFormed = true → off ≠ 0x01 →
    exec (.otherRegisterWrite off b) s = .next { s with host := s.host.accessed }) ∧
  [HostFlag.droppedWrite, .emptyRead, .listLocked, .clamped].map HostFlag.mask = [1, 2, 4, 8] ∧
  ∀ code (s : State), (Instr.unknownCode code).wellFormed = true →
    exec (.unknownCode code) s = .next { s with host := s.host.answered .unknownCode }

/-- The low-byte reads of FILLCNT, DRAINCNT and POS drive the low byte and load the latch with the
rest of the value as it stands, POS with the zone's code and the block-known bit of the layout (R34,
R39, R148, R183). -/
def Obligations.CountAndPositionReads : Prop :=
  (∀ s : State, exec .fillcntRead s = .next { s with host :=
    { s.host.drove (BitVec.ofNat 8 s.pool.fillCount) with
      fillLatch := .load (BitVec.ofNat 8 (s.pool.fillCount / 256)) } }) ∧
  (∀ s : State, exec .draincntRead s = .next { s with host :=
    { s.host.drove (BitVec.ofNat 8 s.pool.drainCount) with
      drainLatch := .load (BitVec.ofNat 8 (s.pool.drainCount / 256)) } }) ∧
  (∀ s : State, (∀ n, s.pool.hostFill = some n → s.pool.fillCount = (s.slot n).length) ∧
    (s.pool.hostFill = none → s.pool.fillCount = 0) ∧
    (∀ n q, s.pool.readQ = n :: q → s.pool.drainCount = (s.slot n).length - s.pool.drain) ∧
    (s.pool.readQ = [] → s.pool.drainCount = 0)) ∧
  [Zone.unknown, .atBom, .inData, .pastEw, .atEom].map Zone.code = [0, 1, 2, 3, 4] ∧
  ∀ s : State, exec .posRead s = .next { s with host :=
    { s.host.drove (BitVec.ofNat 8 (s.pos.zone.code + if s.pos.block.isSome then 8 else 0)) with
      posLatch := .load
        [ BitVec.ofNat 8 (s.pos.file.getD 65535), BitVec.ofNat 8 (s.pos.file.getD 65535 / 256),
          BitVec.ofNat 8 (s.pos.block.getD 65535), BitVec.ofNat 8 (s.pos.block.getD 65535 / 256) ] } }

/-- SEQSTAT and XPSTAT (R184): a read with index 0 loads the latch with the whole register and
answers byte 0, a read with another index answers that byte of the latch, and the index advances and
returns to 0 after the last byte. That a read of either register sets the other's index to 0 and
keeps its own sequence is the model's reading of R184's "any other access" (log entry 17). The bytes
of both are those of the layout (R58, R76, R149, R150): the sequencer's state, stop and waiting
indications, entries, cycle count and episode; the transport's motion state, direction, held
request, levels, indications and lines. Bits that the layout gives no field read 0 (log entry 16).
-/
def Obligations.StatusSequencesReadOneMoment : Prop :=
  ([SeqState.idle, .running, .stopping, .recovery, .frozen, .postWait, .aborting].map SeqState.code =
      [0, 1, 2, 3, 4, 5, 6] ∧
    [UnitKind.write, .mark, .read].map UnitKind.code = [1, 2, 3] ∧
    [Motion.noCartridge, .notReady, .fault, .stopped, .starting, .running, .stopping, .rewinding,
      .unloading].map Motion.code = [0, 1, 2, 3, 4, 5, 6, 7, 8] ∧
    [none, some (HeldRequest.dir .forward), some (.dir .reverse), some .rewind, some .unload].map
      heldCode = [0, 1, 2, 3, 4]) ∧
  (∀ (q : Sequencer) w, w = (if q.work = .waitHead then 1 else if q.work = .waitSlot then 2 else 0) →
    q.episode = none →
    q.seqstat = [BitVec.ofNat 8 (q.state.code + 8 * q.stopInd.toNat + 16 * w),
      BitVec.ofNat 8 (q.cur.val + 8 * 7), q.cycle, 0, 0]) ∧
  (∀ (q : Sequencer) e w v f,
    w = (if q.work = .waitHead then 1 else if q.work = .waitSlot then 2 else 0) →
    q.episode = some e →
    (e.cur = none ∧ v = 7 ∨ ∃ i, e.cur = some i ∧ v = i.val) →
    (e.slot = none ∧ f = 0 ∨ ∃ n, e.slot = some n ∧ f = n.val + 8) →
    q.seqstat = [BitVec.ofNat 8 (q.state.code + 8 * q.stopInd.toNat + 16 * w),
      BitVec.ofNat 8 (q.cur.val + 8 * v + 64 * e.kind.code), q.cycle,
      BitVec.ofNat 8 (f + 16 * e.budget), BitVec.ofNat 8 e.attempts]) ∧
  (∀ s : State, s.xpstat =
    [ BitVec.ofNat 8 (s.xp.motion.code + 16 * (if s.xp.dir = .reverse then 1 else 0) +
        32 * heldCode s.xp.held),
      BitVec.ofNat 8 (s.xp.levels.present.toNat + 2 * s.xp.levels.ready.toNat +
        4 * s.xp.levels.wpermit.toNat + 8 * s.xp.levels.bom.toNat + 16 * s.xp.levels.ew.toNat +
        32 * s.xp.levels.eom.toNat + 64 * s.xp.unloadInd.toNat +
        128 * s.xp.lingerTimer.isSome.toNat),
      BitVec.ofNat 8 ((if s.xp.motion ∈ [.starting, .running, .rewinding] then 1 else 0) +
        (if (s.xp.motion ∈ [.starting, .running, .stopping] ∧ s.xp.dir = .reverse) ∨
          s.xp.motion = .rewinding then 2 else 0) +
        (if s.xp.motion = .rewinding ∨ (s.xp.motion = .stopping ∧ s.xp.fast = true) then 4 else 0) +
        (if s.xp.motion = .unloading then 8 else 0) + 16 * s.wch.wgate.toNat +
        32 * s.wch.egate.toNat) ]) ∧
  (∀ s : State, s.host.seqIx = 0 → exec .seqstatRead s = .next { s with host :=
    { s.host with xpIx := 0, seqIx := 1, seqLatch := s.seq.seqstat,
                  busOut := s.seq.seqstat[0]?.getD 0 } }) ∧
  (∀ s : State, s.host.seqIx ≠ 0 → exec .seqstatRead s = .next { s with host :=
    { s.host with xpIx := 0, seqIx := if s.host.seqIx = 4 then 0 else s.host.seqIx + 1,
                  busOut := s.host.seqLatch[s.host.seqIx.val]?.getD 0 } }) ∧
  (∀ s : State, s.host.xpIx = 0 → exec .xpstatRead s = .next { s with host :=
    { s.host with seqIx := 0, xpIx := 1, xpLatch := s.xpstat, busOut := s.xpstat[0]?.getD 0 } }) ∧
  ∀ s : State, s.host.xpIx ≠ 0 → exec .xpstatRead s = .next { s with host :=
    { s.host with seqIx := 0, xpIx := if s.host.xpIx = 2 then 0 else s.host.xpIx + 1,
                  busOut := s.host.xpLatch[s.host.xpIx.val]?.getD 0 } }

/-- The slot record window (R43, R183, R188): SLOTPTR stores the byte index and the record selector,
clamped to 8 with CLAMPED; SLOTREC answers the byte at the pointer and moves to the next byte of the
same record, from 15 to 0. A read of the low byte of a two-byte field, at index 2, 7 or 9, loads that
field's latch with the high byte; a read of the high byte, at index 3, 8 or 10, answers the latch, or
the record's byte where no latch has been loaded since a reset. The bytes of a slot record and of the
pool summary are those of the layout (R17, R43), a fill slot that is absent reading 0, and bits that
the layout gives no field reading 0 (log entry 16). -/
def Obligations.SlotRecordWindow : Prop :=
  ([SlotState.free, .filling, .queued, .active, .held, .ready].map SlotState.code =
      [0, 1, 2, 3, 4, 5] ∧
    [none, some Source.host, some .stream, some .medium].map sourceCode = [0, 1, 2, 3] ∧
    [none, some WriteClass.clean, some .marginal, some .failed].map writeClassCode = [0, 1, 2, 3] ∧
    [none, some ReadClass.clean, some .marginal, some .damaged].map readClassCode = [0, 1, 2, 3]) ∧
  (∀ r : SlotRecord, (List.range 16).map r.byte =
    [ BitVec.ofNat 8 (r.state.code + 8 * sourceCode r.source +
        32 * (if r.kind = some .mark then 1 else 0) + 64 * r.tag.isSome.toNat),
      r.tag.getD 0, BitVec.ofNat 8 r.length, BitVec.ofNat 8 (r.length / 256),
      BitVec.ofNat 8 (r.discontinuity.toNat + 2 * r.rewritten.toNat + 4 * writeClassCode r.wclass),
      BitVec.ofNat 8 (r.read.lrcFail.toNat + 2 * r.read.crcFail.toNat +
        4 * r.read.lengthMismatch.toNat + 8 * r.read.overlength.toNat +
        16 * r.read.headerBad.toNat + 32 * readClassCode r.read.cls),
      BitVec.ofNat 8 (r.read.sequenceBreak.toNat + 2 * r.read.duplicate.toNat +
        4 * r.read.supersedes.toNat + 8 * r.read.hdrStream.toNat +
        16 * r.read.hdrDiscontinuity.toNat + 32 * r.read.hdrRewritten.toNat),
      BitVec.ofNat 8 r.read.fallback, BitVec.ofNat 8 (r.read.fallback / 256),
      BitVec.ofNat 8 r.read.errors, BitVec.ofNat 8 (r.read.errors / 256), 0, 0, 0, 0, 0 ]) ∧
  (∀ p : Pool, p.summary 0 = BitVec.ofNat 8 p.freeCount ∧
    (∀ k o, (k, o) ∈ [(1, p.hostFill), (2, p.streamFill)] →
      (o = none → p.summary k = 0) ∧ ∀ n, o = some n → p.summary k = BitVec.ofNat 8 (n.val + 128)) ∧
    (∀ k (q : List SlotNo), (k, q) ∈ [(3, p.writeQ), (8, p.readQ)] →
      p.summary k = BitVec.ofNat 8 q.length ∧
      ∀ j, j < 4 → p.summary (k + 1 + j) = BitVec.ofNat 8
        (((q.map (·.val))[2 * j]?).getD 15 + 16 * ((q.map (·.val))[2 * j + 1]?).getD 15)) ∧
    (∀ n : SlotNo, (p.summary 13).getLsbD n.val = true ↔ (p.get n).state = .held) ∧
    p.summary 14 = 0 ∧ p.summary 15 = 0) ∧
  (∀ b (s : State) (sel : Fin 9) (ix : Fin 16), sel.val = min (b.toNat / 16) 8 →
    ix.val = b.toNat % 16 →
    exec (.slotptrWrite b) s = .next { s with
      host := ({ s.host.accessed with slotSel := sel, slotIx := ix } : HostPort).stuck
        (decide (8 < b.toNat / 16)) .clamped }) ∧
  (∀ s : State, s.host.slotSel = 8 → exec .slotrecRead s = .next { s with host :=
    { s.host.drove (s.pool.summary s.host.slotIx.val) with slotIx := s.host.slotIx + 1 } }) ∧
  (∀ (s : State) (n : SlotNo), s.host.slotSel.val = n.val →
    s.host.slotIx ∉ ([2, 3, 7, 8, 9, 10] : List (Fin 16)) →
    exec .slotrecRead s = .next { s with host :=
      { s.host.drove ((s.slot n).byte s.host.slotIx.val) with slotIx := s.host.slotIx + 1 } }) ∧
  (∀ (s : State) (n : SlotNo) (f : Fin 3), s.host.slotSel.val = n.val →
    (s.host.slotIx, f) ∈ ([(2, 0), (7, 1), (9, 2)] : List (Fin 16 × Fin 3)) →
    exec .slotrecRead s = .next { s with host :=
      { s.host.drove ((s.slot n).byte s.host.slotIx.val) with
        slotIx := s.host.slotIx + 1
        slotLatch := s.host.slotLatch.set (3 * n.val + f.val)
          (.load ((s.slot n).byte (s.host.slotIx.val + 1))) } }) ∧
  (∀ (s : State) (n : SlotNo) (f : Fin 3), s.host.slotSel.val = n.val →
    (s.host.slotIx, f) ∈ ([(3, 0), (8, 1), (10, 2)] : List (Fin 16 × Fin 3)) →
    exec .slotrecRead s = .next { s with host :=
      { s.host.drove (if s.host.slotLatch[3 * n.val + f.val].loaded
          then s.host.slotLatch[3 * n.val + f.val].value
          else (s.slot n).byte s.host.slotIx.val) with
        slotIx := s.host.slotIx + 1 } }) ∧
  ∀ (s : State) (n : SlotNo), s.host.slotSel.val = n.val →
    s.host.slotIx ∈ ([2, 7, 9] : List (Fin 16)) →
    ∃ t u, exec .slotrecRead s = .next t ∧ exec .slotrecRead t = .next u ∧
      t.host.busOut = (s.slot n).byte s.host.slotIx.val ∧
      t.host.slotIx = s.host.slotIx + 1 ∧
      u.host.busOut = (s.slot n).byte (s.host.slotIx.val + 1) ∧
      u.host.slotIx = s.host.slotIx + 2 ∧ u.pool = s.pool ∧ u.seq = s.seq

/-- The result window (R188): RESPTR stores the byte index, clamped to 11 with CLAMPED; RESDATA
answers the byte of the head result and moves on, from 11 to 0; with no result it answers 00h and
stays. The bytes of a result are those of the layout, an absent file or block FFFFh (R66). -/
def Obligations.ResultWindow : Prop :=
  [EntryOutcome.done, .stopped, .fileMarkMet, .bomMet, .blankMet, .ewMet, .eomMet, .writeProtected,
    .positionUnknown, .notReady, .transportFault, .aborted].map EntryOutcome.code =
      [1, 2, 3, 4, 5, 6, 7, 8, 9, 10, 11, 12] ∧
  (∀ r : Result, (List.range 12).map r.byte =
    [ BitVec.ofNat 8 (r.index.val + 8 * r.file.isSome.toNat + 16 * r.block.isSome.toNat +
        32 * r.record.marginalSeen.toNat + 64 * r.record.ewPassed.toNat +
        128 * r.record.recoveredSeen.toNat),
      r.op, r.outcome.code, BitVec.ofNat 8 r.record.unitsDone, BitVec.ofNat 8 r.record.skipped,
      BitVec.ofNat 8 r.record.retries, BitVec.ofNat 8 r.record.dropped, r.cycle,
      BitVec.ofNat 8 (r.file.getD 65535), BitVec.ofNat 8 (r.file.getD 65535 / 256),
      BitVec.ofNat 8 (r.block.getD 65535), BitVec.ofNat 8 (r.block.getD 65535 / 256) ]) ∧
  (∀ b (s : State), ∃ t, exec (.resptrWrite b) s = .next t ∧
    t = { s with
      host := ({ s.host.accessed with resptr := t.host.resptr } : HostPort).stuck
        (decide (11 < b.toNat)) .clamped } ∧
    t.host.resptr.val = min b.toNat 11) ∧
  (∀ s : State, s.host.results = [] → exec .resdataRead s = .next { s with host := s.host.drove 0 }) ∧
  (∀ (s : State) r q, s.host.results = r :: q → s.host.resptr ∉ ([8, 9, 10, 11] : List (Fin 12)) →
    exec .resdataRead s = .next { s with host :=
      { s.host.drove (r.byte s.host.resptr.val) with resptr := s.host.resptr + 1 } }) ∧
  (∀ (s : State) r q, s.host.results = r :: q → s.host.resptr = 8 →
    exec .resdataRead s = .next { s with host :=
      { s.host.drove (r.byte 8) with resptr := 9, resFileLatch := .load (r.byte 9) } }) ∧
  (∀ (s : State) r q, s.host.results = r :: q → s.host.resptr = 9 →
    exec .resdataRead s = .next { s with host :=
      { s.host.drove (s.host.resFileLatch.shown (r.byte 9)) with resptr := 10 } }) ∧
  (∀ (s : State) r q, s.host.results = r :: q → s.host.resptr = 10 →
    exec .resdataRead s = .next { s with host :=
      { s.host.drove (r.byte 10) with resptr := 11, resBlockLatch := .load (r.byte 11) } }) ∧
  ∀ (s : State) r q, s.host.results = r :: q → s.host.resptr = 11 →
    exec .resdataRead s = .next { s with host :=
      { s.host.drove (s.host.resBlockLatch.shown (r.byte 11)) with resptr := 0 } }

/-- The capture window (R183, R188): CAPPTR stores the byte index, clamped to 6 with CLAMPED;
CAPDATA answers byte 0 and latches the other six, or answers the latched byte, and moves on, from 6
to 0. The bytes of the record are those of the layout, all 00h while it is not valid (R106, R132).
That the slot bits of an absent slot and the check bit of an absent expected frame read 0 is the
model's reading (log entry 16). -/
def Obligations.CaptureWindow : Prop :=
  [none, some CaptureClass.marginal, some .failed, some .damaged].map captureClassCode =
    [0, 1, 2, 3] ∧
  captureBytes none = (0, [0, 0, 0, 0, 0, 0]) ∧
  (∀ (c : Capture) e f, e = c.expected.getD 0 →
    (c.slot = none ∧ f = 0 ∨ ∃ n, c.slot = some n ∧ f = 8 + 16 * n.val) →
    captureBytes (some c) =
      (BitVec.ofNat 8 (1 + 2 * c.kind.code + f + 128 * c.expected.isSome.toNat),
        [ BitVec.ofNat 8 (captureClassCode c.cls + 8 * (e.getLsbD 8).toNat +
            16 * (c.strict.getLsbD 8).toNat + 32 * (c.lenient.getLsbD 8).toNat),
          BitVec.ofNat 8 c.index, BitVec.ofNat 8 (c.index / 256), e.setWidth 8,
          c.strict.setWidth 8, c.lenient.setWidth 8 ])) ∧
  (∀ b (s : State), ∃ t, exec (.capptrWrite b) s = .next t ∧
    t = { s with
      host := ({ s.host.accessed with capptr := t.host.capptr } : HostPort).stuck
        (decide (6 < b.toNat)) .clamped } ∧
    t.host.capptr.val = min b.toNat 6) ∧
  (∀ s : State, s.host.capptr = 0 → exec .capdataRead s = .next { s with host :=
    { s.host.drove (captureBytes s.capture).1 with
      capptr := 1, capLatch := .load (captureBytes s.capture).2 } }) ∧
  ∀ s : State, s.host.capptr ≠ 0 → exec .capdataRead s = .next { s with host :=
    { s.host.drove
        (((s.host.capLatch.shown (captureBytes s.capture).2)[s.host.capptr.val - 1]?).getD 0) with
      capptr := if s.host.capptr = 6 then 0 else s.host.capptr + 1 } }

/-- The reads of the offsets without a row of their own drive the register's byte, as the register
map and the layout give it, and change nothing else. A latch that has not been loaded yet gives the
value as it stands, and bits of no field read 0 (log entries 16 and 18). The codes of CMDSTAT and of
LISTEND and the fields of STRCTL are those of the layout (R65, R169, R186). -/
def Obligations.OtherRegisterReads : Prop :=
  [Answer.none, .accepted, .busy, .idleState, .badList, .noSlot, .fillOpen, .emptyFill, .readEmpty,
    .notHeld, .queueBusy, .resultEmpty, .portBusy, .badLength, .unknownCode].map Answer.code =
      [0, 1, 2, 3, 4, 5, 6, 7, 8, 9, 10, 11, 12, 13, 14] ∧
  [EndCause.none, .completed, .stopped, .aborted, .terminal, .softReset].map EndCause.code =
    [0, 1, 2, 3, 4, 5] ∧
  [PortState.off, .filling, .starved].map PortState.code = [0, 1, 2] ∧
  (∀ p : StreamPort, p.strctl = BitVec.ofNat 8 (p.master.toNat + 2 * p.reserve +
    8 * (if p.state = .filling then 1 else 0) + 16 * p.state.code + 64 * p.discontinuity.toNat +
    128 * p.lossNoted.toNat)) ∧
  ∀ off (s : State), (Instr.otherRegisterRead off).wellFormed = true →
    ∃ b, (off, b) ∈
      ([ (0x00, BitVec.ofNat 8 (16 * s.host.cmdstat.code + s.host.cmdIndex.toNat)),
         (0x01, s.host.cmdarg),
         (0x02, BitVec.ofNat 8 (s.seq.ctl.mainLength + 16 * s.seq.ctl.recLength)),
         (0x03, BitVec.ofNat 8 ((if s.seq.ctl.cycle then 1 else 0) +
            if s.seq.ctl.freezeOnFailure then 2 else 0)),
         (0x05, s.seq.endCause.code),
         (0x06, BitVec.ofNat 8 s.seq.listptr.val),
         (0x08, BitVec.ofNat 8 s.xp.timptr.val),
         (0x0C, s.host.fillLatch.shown (BitVec.ofNat 8 (s.pool.fillCount / 256))),
         (0x0E, s.host.drainLatch.shown (BitVec.ofNat 8 (s.pool.drainCount / 256))),
         (0x0F, BitVec.ofNat 8 s.host.results.length),
         (0x14, (s.host.posLatch.shown s.pos.posRest)[0]?.getD 0),
         (0x15, (s.host.posLatch.shown s.pos.posRest)[1]?.getD 0),
         (0x16, (s.host.posLatch.shown s.pos.posRest)[2]?.getD 0),
         (0x17, (s.host.posLatch.shown s.pos.posRest)[3]?.getD 0),
         (0x18, s.host.events.setWidth 8),
         (0x19, if s.host.events.getLsbD 8 then 1 else 0),
         (0x1A, s.host.evmask.setWidth 8),
         (0x1B, if s.host.evmask.getLsbD 8 then 1 else 0),
         (0x1C, s.host.hoststat.setWidth 8),
         (0x1E, s.stream.strctl),
         (0x1F, s.pool.tag) ] : List (BitVec 5 × Byte)) ∧
      exec (.otherRegisterRead off) s = .next { s with host := s.host.drove b }

/-- RESULT_ADVANCE and PENDING_RESULT_POSTED (R47, R64, R68, R70, R190): refused with RESULT_EMPTY
on an empty queue; otherwise the head leaves and RESPTR becomes 0. A pending result joins the tail
as soon as there is room, RESULT_POSTED set, and POST_WAIT then goes on: after a terminal outcome
the list ends; after DONE, or a short outcome without HALT_ON_SHORT, the entry that follows begins
with a fresh record, M0 in CYCLE mode with one cycle more, and its first unit starts or continues
the motion; with the stop indication set the list ends STOPPED instead. In ABORTING the post lets
the list end ABORTED where the tape is at rest, and otherwise the sequencer waits for that (R73);
that the list ends in the event of the post is the model's reading (log entry 5). RESULT_ADVANCE
takes the head off and posts the pending result in one event. It stays pending while there is no
room (log entry 3). That CMDSTAT shows index 0 with a refusal is the model's reading (log entry 39).
-/
def Obligations.ResultQueueAdvances : Prop :=
  (∀ s : State, s.host.results = [] →
    exec .resultAdvance s = .next { s with host := s.host.answered .resultEmpty }) ∧
  (∀ (s : State) r q, s.host.results = r :: q → s.seq.pendingResult = none →
    exec .resultAdvance s = .next { s with host :=
      { s.host.answered .accepted with results := q, resptr := 0 } }) ∧
  (∀ (s : State) r q p, s.host.results = r :: q → q.length < 16 → s.seq.pendingResult = some p →
    s.seq.state = .postWait → p.outcome.terminal = true →
    ∃ t, exec .resultAdvance s = .next t ∧ t.host.cmdstat = .accepted ∧
      t.host.results = q ++ [p] ∧ t.host.resptr = 0 ∧ t.seq.pendingResult = none ∧
      t.seq.state = .idle ∧ t.seq.endCause = .terminal ∧ t.event .resultPosted = true ∧
      t.event .listEnded = true) ∧
  (∀ (s : State) p, s.seq.pendingResult = some p → s.host.results.length < 16 →
    s.seq.state = .postWait → p.outcome.terminal = true →
    ∃ t, exec .pendingResultPosted s = .next t ∧ t.host.results = s.host.results ++ [p] ∧
      t.seq.pendingResult = none ∧ t.seq.state = .idle ∧ t.seq.endCause = .terminal ∧
      t.event .resultPosted = true ∧ t.event .listEnded = true) ∧
  (∀ (s : State) p w, s.seq.pendingResult = some p → s.host.results.length < 16 →
    s.seq.state = .postWait →
    p.outcome = .done ∨
      (p.outcome ∈ [.fileMarkMet, .bomMet, .blankMet, .ewMet] ∧ s.entry.haltOnShort = false) →
    (s.seq.stopInd = false → s.passFollows w → s.xp.levels.eom = false →
      s.xp.motion = .stopped ∨ (s.xp.motion = .running ∧ s.xp.dir = .forward) →
      ∃ t, exec .pendingResultPosted s = .next t ∧ t.host.results = s.host.results ++ [p] ∧
        t.event .resultPosted = true ∧ t.seq.pendingResult = none ∧ s.wentOn t w ∧
        t.xp.motion = (if s.xp.motion = .stopped then .starting else .running) ∧
        t.xp.dir = .forward ∧ t.xp.lingerTimer = none ∧ t.rch.tagMem = s.rch.tagMem ∧
        t.pool = s.pool ∧ t.pos = s.pos ∧ t.stream = s.stream ∧ t.capture = s.capture) ∧
    (s.seq.stopInd = true → s.entryFollows →
      ∃ t, exec .pendingResultPosted s = .next t ∧ t.seq.pendingResult = none ∧
        s.listEndedWith t p p.outcome .stopped ∧ t.pool = s.pool ∧ t.pos = s.pos)) ∧
  (∀ (s : State) p, s.seq.pendingResult = some p → s.host.results.length < 16 →
    s.seq.state = .aborting →
    ∃ t, exec .pendingResultPosted s = .next t ∧ t.host.results = s.host.results ++ [p] ∧
      t.event .resultPosted = true ∧ t.seq.pendingResult = none ∧
      (s.xp.motion ∈ [.stopped, .noCartridge, .notReady, .fault] →
        t.seq.state = .idle ∧ t.seq.endCause = .aborted ∧ t.event .listEnded = true) ∧
      (s.xp.motion ∉ [.stopped, .noCartridge, .notReady, .fault] →
        t.seq.state = .aborting ∧ t.seq.endCause = s.seq.endCause ∧
        t.event .listEnded = s.event .listEnded) ∧
      t.xp.motion = s.xp.motion ∧ t.wch = s.wch ∧ t.rch = s.rch ∧ t.pool = s.pool ∧
      t.pos = s.pos ∧ t.stream = s.stream ∧ t.capture = s.capture ∧ t.pending = s.pending) ∧
  (∀ (s : State) r q p, s.host.results = r :: q → q.length < 16 → s.seq.pendingResult = some p →
    exec .resultAdvance s = exec .pendingResultPosted { s with host :=
      { s.host.answered .accepted with results := q, resptr := 0 } }) ∧
  ∀ s : State, s.seq.pendingResult = none ∨ 16 ≤ s.host.results.length →
    exec .pendingResultPosted s = .next s

/-! ## List memory, the settings and the timing table -/

/-- LISTPTR and LISTDATA (R45). LISTPTR is stored in every state, a value above 47 as 47 with
CLAMPED set. A read of LISTDATA answers the byte at LISTPTR in every state; a write stores it in
IDLE and changes no other byte, and in any other state is ignored with LIST_LOCKED; LISTPTR advances
in each case, from 47 to 0, and can be read in every state. Entry Mn stands at addresses 4n to 4n+3
and Vn at 32+4n to 35+4n: operation, count, flags and budget. A pin reset leaves every byte 00h and
LISTPTR 0, and a list of such bytes is refused at START; a soft reset keeps both. -/
def Obligations.ListMemoryAccess : Prop :=
  (∀ b (s : State), ∃ t, exec (.listptrWrite b) s = .next t ∧
    t = { s with
      seq := { s.seq with listptr := t.seq.listptr }
      host := s.host.accessed.stuck (decide (47 < b.toNat)) .clamped } ∧
    t.seq.listptr.val = min b.toNat 47) ∧
  (∀ s : State, exec .listdataRead s = .next { s with
    seq := { s.seq with
      listptr := if h : s.seq.listptr.val < 47 then ⟨s.seq.listptr.val + 1, by omega⟩ else 0 }
    host := s.host.drove (s.seq.listMem.read s.seq.listptr.val) }) ∧
  (∀ b (s : State), s.seq.state = .idle → s.seq.listMem.wf = true →
    ∃ t, exec (.listdataWrite b) s = .next t ∧
      t = { s with
        seq := { s.seq with
          listMem := t.seq.listMem
          listptr := if h : s.seq.listptr.val < 47 then ⟨s.seq.listptr.val + 1, by omega⟩ else 0 }
        host := s.host.accessed } ∧
      t.seq.listMem.read s.seq.listptr.val = b ∧
      ∀ k, k ≠ s.seq.listptr.val → t.seq.listMem.read k = s.seq.listMem.read k) ∧
  (∀ b (s : State), s.seq.state ≠ .idle → exec (.listdataWrite b) s = .next { s with
    seq := { s.seq with
      listptr := if h : s.seq.listptr.val < 47 then ⟨s.seq.listptr.val + 1, by omega⟩ else 0 }
    host := s.host.accessed.stuck true .listLocked }) ∧
  (∀ s : State, exec (.otherRegisterRead 0x06) s = .next { s with
    host := s.host.drove (BitVec.ofNat 8 s.seq.listptr.val) }) ∧
  (∀ (q : Sequencer) n,
    q.main n =
      { opcode := q.listMem.read (4 * n), count := q.listMem.read (4 * n + 1)
        flags := q.listMem.read (4 * n + 2), budget := q.listMem.read (4 * n + 3) } ∧
    q.recovery n =
      { opcode := q.listMem.read (32 + 4 * n), count := q.listMem.read (32 + 4 * n + 1)
        flags := q.listMem.read (32 + 4 * n + 2), budget := q.listMem.read (32 + 4 * n + 3) }) ∧
  (∀ lv (s : State), ∃ t, exec (.pinReset lv) s = .next t ∧ (∀ k, t.seq.listMem.read k = 0) ∧
    t.seq.listptr = 0) ∧
  (∀ s : State, ∃ t, exec .softReset s = .next t ∧ t.seq.listMem = s.seq.listMem ∧
    t.seq.listptr = s.seq.listptr) ∧
  ∀ s : State, s.seq.state = .idle → 0 < s.seq.ctl.mainLength → (∀ k, s.seq.listMem.read k = 0) →
    exec .start s = .next { s with host := { s.host.answered .badList with cmdIndex := 0 } }

/-- SEQCTL (R46, and its layout): the write of the high byte stores the four settings together in
IDLE, the lengths clamped to 1 to 8 and 0 to 4 with CLAMPED set, and in any other state is ignored
with LIST_LOCKED. -/
def Obligations.ListSettingsWrite : Prop :=
  (∀ b (s : State), s.seq.state = .idle → exec (.seqctlWrite b) s = .next { s with
    seq := { s.seq with ctl :=
      { mainLength := max 1 (min 8 (s.host.holdSeqctl.toNat % 16))
        recLength := min 4 (s.host.holdSeqctl.toNat / 16 % 8)
        cycle := b.getLsbD 0
        freezeOnFailure := b.getLsbD 1 } }
    host := s.host.accessed.stuck
      (decide (s.host.holdSeqctl.toNat % 16 = 0 ∨ 8 < s.host.holdSeqctl.toNat % 16 ∨
        4 < s.host.holdSeqctl.toNat / 16 % 8)) .clamped }) ∧
  ∀ b (s : State), s.seq.state ≠ .idle → exec (.seqctlWrite b) s = .next { s with
    host := s.host.accessed.stuck true .listLocked }

/-- TIMPTR and TIMDATA (R151, R152). TIMPTR is stored in every state, a value above 9 as 9 with
CLAMPED set. A read of TIMDATA answers the entry at TIMPTR in every state; a write in IDLE stores
the value clamped to the entry's range, CLAMPED telling a value stored other than as written, and
leaves every other entry; in any other state it is ignored with LIST_LOCKED. TIMPTR advances in each
case, from 9 to 0, and can be read in every state. -/
def Obligations.TimingTableAccess : Prop :=
  (∀ b (s : State), ∃ t, exec (.timptrWrite b) s = .next t ∧
    t = { s with
      xp := { s.xp with timptr := t.xp.timptr }
      host := s.host.accessed.stuck (decide (9 < b.toNat)) .clamped } ∧
    t.xp.timptr.val = min b.toNat 9) ∧
  (∀ s : State, exec .timdataRead s = .next { s with
    xp := { s.xp with timptr := if h : s.xp.timptr.val < 9 then ⟨s.xp.timptr.val + 1, by omega⟩ else 0 }
    host := s.host.drove (s.xp.timing.get s.xp.timptr) }) ∧
  (∀ b (s : State), s.seq.state = .idle → ∃ t, exec (.timdataWrite b) s = .next t ∧
    t = { s with
      xp := { s.xp with
        timing := t.xp.timing
        timptr := if h : s.xp.timptr.val < 9 then ⟨s.xp.timptr.val + 1, by omega⟩ else 0 }
      host := s.host.accessed.stuck
        (decide (b < timingLeast s.xp.timptr ∨ timingGreatest s.xp.timptr < b)) .clamped } ∧
    t.xp.timing.get s.xp.timptr = (if b < timingLeast s.xp.timptr then timingLeast s.xp.timptr
      else if timingGreatest s.xp.timptr < b then timingGreatest s.xp.timptr else b) ∧
    ∀ i, i ≠ s.xp.timptr → t.xp.timing.get i = s.xp.timing.get i) ∧
  (∀ b (s : State), s.seq.state ≠ .idle → exec (.timdataWrite b) s = .next { s with
    xp := { s.xp with timptr := if h : s.xp.timptr.val < 9 then ⟨s.xp.timptr.val + 1, by omega⟩ else 0 }
    host := s.host.accessed.stuck true .listLocked }) ∧
  (List.ofFn timingLeast = [1, 1, 1, 1, 2, 1, 1, 1, 0, 20] ∧
    List.ofFn timingGreatest = [255, 255, 255, 255, 15, 255, 255, 255, 255, 255]) ∧
  ∀ s : State, exec (.otherRegisterRead 0x08) s = .next { s with
    host := s.host.drove (BitVec.ofNat 8 s.xp.timptr.val) }

/-! ## The block pool -/

/-- CLAIM (R33): refused with FILL_OPEN while a host fill slot is open, and with NO_SLOT where no
slot is FREE; otherwise the lowest-numbered FREE slot becomes the host fill slot with length 0, and
the pool summary shows it. That CMDSTAT shows index 0 with a refusal is the model's reading (log
entry 39). -/
def Obligations.ClaimOpensTheLowestFreeSlot : Prop :=
  (∀ s : State, s.pool.hostFill ≠ none →
    exec .claim s = .next { s with host := s.host.answered .fillOpen }) ∧
  (∀ s : State, s.pool.hostFill = none → (∀ n, (s.slot n).state ≠ .free) →
    exec .claim s = .next { s with host := s.host.answered .noSlot }) ∧
  (∀ (s : State) (n : SlotNo), s.pool.hostFill = none → (s.slot n).state = .free →
    (∀ m, m < n → (s.slot m).state ≠ .free) →
    exec .claim s = .next { s with
      pool := s.pool.put n
        { SlotRecord.free with state := .filling, source := some .host, kind := some .data }
      host := s.host.answered .accepted }) ∧
  ∀ (s : State) (n : SlotNo), s.pool.hostFill = none → (s.slot n).state = .free →
    (∀ m, m < n → (s.slot m).state ≠ .free) →
    ∃ t, exec .claim s = .next t ∧ t.pool.hostFill = some n ∧ t.pool.fillCount = 0 ∧
      t.pool.summary 1 = BitVec.ofNat 8 (128 + n.val)

/-- DATA, written (R34): with a host fill slot open and not full, the byte goes to the place given
by the length, which advances by one, and every other byte of the pool reads as before; otherwise
the byte is dropped and DROPPED_WRITE is set. -/
def Obligations.DataWriteFillsTheHostSlot : Prop :=
  (∀ b (s : State) (n : SlotNo), s.pool.hostFill = some n → (s.slot n).length < 1024 →
    s.pool.data.wf = true →
    ∃ t, exec (.dataWrite b) s = .next t ∧
      t = { s with
        pool := { s.pool.put n { s.slot n with length := (s.slot n).length + 1 } with
          data := t.pool.data }
        host := s.host.accessed } ∧
      t.pool.data.read (1024 * n.val + (s.slot n).length) = b ∧
      ∀ k, k ≠ 1024 * n.val + (s.slot n).length → t.pool.data.read k = s.pool.data.read k) ∧
  (∀ b (s : State), s.pool.hostFill = none → exec (.dataWrite b) s = .next { s with
    host := s.host.accessed.stuck true .droppedWrite }) ∧
  ∀ b (s : State) (n : SlotNo), s.pool.hostFill = some n → 1024 ≤ (s.slot n).length →
    exec (.dataWrite b) s = .next { s with host := s.host.accessed.stuck true .droppedWrite }

/-- QUEUE and QUEUE_MARK, and a write of TAG (R25, R26, R35, R36). QUEUE: EMPTY_FILL without a host
fill slot or with one of length 0; otherwise the slot becomes QUEUED at the tail. QUEUE_MARK:
NO_SLOT where no slot is FREE; otherwise the lowest-numbered FREE slot becomes a QUEUED mark of
source HOST and length 0 at the tail. Each takes the next tag, and the counter advances, 255 to 0.
Where a WRITE unit waits for the head, it takes it in the same event, as WAITING_HEAD_TAKEN gives. A
write of TAG is stored while the write queue is empty, and refused with QUEUE_BUSY otherwise. That
CMDSTAT shows index 0 with a refusal is the model's reading (log entry 39). -/
def Obligations.QueueingTakesTags : Prop :=
  (∀ s : State, s.pool.hostFill = none →
    exec .queue s = .next { s with host := s.host.answered .emptyFill }) ∧
  (∀ (s : State) (n : SlotNo), s.pool.hostFill = some n → (s.slot n).length = 0 →
    exec .queue s = .next { s with host := s.host.answered .emptyFill }) ∧
  (∀ (s : State) (n : SlotNo), s.pool.hostFill = some n → (s.slot n).length ≠ 0 →
    s.seq.work ≠ .waitHead →
    exec .queue s = .next { s with
      pool := { s.pool.put n { s.slot n with state := .queued, tag := some s.pool.tag } with
        writeQ := s.pool.writeQ ++ [n]
        tag := s.pool.tag + 1 }
      host := s.host.answered .accepted }) ∧
  (∀ s : State, (∀ n, (s.slot n).state ≠ .free) →
    exec .queueMark s = .next { s with host := s.host.answered .noSlot }) ∧
  (∀ (s : State) (n : SlotNo), (s.slot n).state = .free → (∀ m, m < n → (s.slot m).state ≠ .free) →
    s.seq.work ≠ .waitHead →
    exec .queueMark s = .next { s with
      pool := { s.pool.put n { SlotRecord.free with
            state := .queued, source := some .host, kind := some .mark, tag := some s.pool.tag } with
        writeQ := s.pool.writeQ ++ [n]
        tag := s.pool.tag + 1 }
      host := s.host.answered .accepted }) ∧
  (∀ (s : State) (n : SlotNo), s.pool.hostFill = some n → (s.slot n).length ≠ 0 →
    s.seq.work = .waitHead →
    exec .queue s = exec .waitingHeadTaken { s with
      pool := { s.pool.put n { s.slot n with state := .queued, tag := some s.pool.tag } with
        writeQ := s.pool.writeQ ++ [n]
        tag := s.pool.tag + 1 }
      host := s.host.answered .accepted }) ∧
  (∀ (s : State) (n : SlotNo), (s.slot n).state = .free → (∀ m, m < n → (s.slot m).state ≠ .free) →
    s.seq.work = .waitHead →
    exec .queueMark s = exec .waitingHeadTaken { s with
      pool := { s.pool.put n { SlotRecord.free with
            state := .queued, source := some .host, kind := some .mark, tag := some s.pool.tag } with
        writeQ := s.pool.writeQ ++ [n]
        tag := s.pool.tag + 1 }
      host := s.host.answered .accepted }) ∧
  (∀ b (s : State), s.pool.writeQ = [] → exec (.tagWrite b) s = .next { s with
    pool := { s.pool with tag := b }
    host := s.host.answered .accepted }) ∧
  ∀ b (s : State), s.pool.writeQ ≠ [] →
    exec (.tagWrite b) s = .next { s with host := s.host.answered .queueBusy }

/-- CANCEL_FILL, RELEASE and DISCARD_HELD free a slot (R23, R35, R40, R42). With no READ unit
waiting and the stream port not STARVED, the slot becomes FREE, and SLOT_FREED is set where no slot
was FREE before. The order of service is R23's: a waiting READ unit is granted the slot first, a
STARVED port's claim is left where none is FREE then, no SLOT_FREED is set, and the unit goes on
forward; with no READ unit waiting a STARVED port's claim is granted the lowest FREE slot where the
free count is greater than the reserve. CANCEL_FILL without a fill slot is accepted and has no
effect; RELEASE of an empty queue is refused. That CMDSTAT shows index 0 with a refusal is the
model's reading (log entry 39). -/
def Obligations.HostCommandsFreeASlot : Prop :=
  (∀ s : State, s.pool.hostFill = none →
    exec .cancelFill s = .next { s with host := s.host.answered .accepted }) ∧
  (∀ (s : State) (n : SlotNo), s.pool.hostFill = some n → s.seq.work ≠ .waitSlot →
    s.stream.state ≠ .starved →
    exec .cancelFill s = .next { s with
      pool := s.pool.put n SlotRecord.free
      host := if s.pool.freeCount = 0 then (s.host.answered .accepted).flagged .slotFreed
        else s.host.answered .accepted }) ∧
  (∀ s : State, s.pool.readQ = [] →
    exec .release s = .next { s with host := s.host.answered .readEmpty }) ∧
  (∀ (s : State) (n : SlotNo) q, s.pool.readQ = n :: q → (s.slot n).state = .ready →
    s.seq.work ≠ .waitSlot → s.stream.state ≠ .starved →
    exec .release s = .next { s with
      pool := { s.pool.put n SlotRecord.free with readQ := q, drain := 0 }
      host := if s.pool.freeCount = 0 then (s.host.answered .accepted).flagged .slotFreed
        else s.host.answered .accepted }) ∧
  (∀ (s : State) (n : SlotNo), s.host.cmdarg.toNat = n.val → (s.slot n).state = .held →
    s.seq.work ≠ .waitSlot → s.stream.state ≠ .starved →
    exec .discardHeld s = .next { s with
      pool := s.pool.put n SlotRecord.free
      host := if s.pool.freeCount = 0 then (s.host.answered .accepted).flagged .slotFreed
        else s.host.answered .accepted }) ∧
  ∀ (c : Instr) (s : State) (n : SlotNo) (p : Pool),
    (c = .cancelFill ∧ s.pool.hostFill = some n ∧ p = s.pool) ∨
      (c = .release ∧ (s.slot n).state = .ready ∧ (∃ q, s.pool.readQ = n :: q ∧
        p = { s.pool with readQ := q, drain := 0 })) ∨
      (c = .discardHeld ∧ s.host.cmdarg.toNat = n.val ∧ (s.slot n).state = .held ∧ p = s.pool) →
    (s.seq.state = .running → s.seq.work = .waitSlot → (∀ m, (s.slot m).state ≠ .free) →
      s.xp.levels.eom = false →
      s.xp.motion = .stopped ∨ (s.xp.motion = .running ∧ s.xp.dir = .forward) →
      ∃ t, exec c s = .next t ∧
        t.pool = p.put n
          { SlotRecord.free with state := .active, source := some .medium, kind := some .data } ∧
        t.host = s.host.answered .accepted ∧ t.seq = { s.seq with work := .read n } ∧
        t.xp.motion = (if s.xp.motion = .stopped then .starting else .running) ∧
        t.xp.dir = .forward ∧ t.xp.lingerTimer = none ∧ t.stream = s.stream ∧ t.pos = s.pos ∧
        t.capture = s.capture ∧ t.pending = s.pending) ∧
    (s.seq.work ≠ .waitSlot → s.stream.state = .starved → s.pool.freeCount < s.stream.reserve →
      exec c s = .next { s with
        pool := p.put n SlotRecord.free
        host := if s.pool.freeCount = 0 then (s.host.answered .accepted).flagged .slotFreed
          else s.host.answered .accepted }) ∧
    ∀ m : SlotNo, s.seq.work ≠ .waitSlot → s.stream.state = .starved →
      s.stream.reserve ≤ s.pool.freeCount → m = n ∨ (s.slot m).state = .free →
      (∀ k, k < m → k ≠ n ∧ (s.slot k).state ≠ .free) →
      exec c s = .next { s with
        pool := (p.put n SlotRecord.free).put m
          { SlotRecord.free with state := .filling, source := some .stream, kind := some .data }
        stream := { s.stream with state := .filling, lossNoted := false }
        host := s.host.answered .accepted }

/-- DATA, read (R39): the byte of the read queue's head at the drain cursor, which then advances;
00h with EMPTY_READ where the queue is empty or the head is drained. -/
def Obligations.DataReadDrainsTheHead : Prop :=
  (∀ (s : State) (n : SlotNo) q, s.pool.readQ = n :: q → s.pool.drain < (s.slot n).length →
    exec .dataRead s = .next { s with
      pool := { s.pool with drain := s.pool.drain + 1 }
      host := s.host.drove (s.pool.data.read (1024 * n.val + s.pool.drain)) }) ∧
  (∀ s : State, s.pool.readQ = [] → exec .dataRead s = .next { s with
    host := (s.host.drove 0).stuck true .emptyRead }) ∧
  ∀ (s : State) (n : SlotNo) q, s.pool.readQ = n :: q → (s.slot n).length ≤ s.pool.drain →
    exec .dataRead s = .next { s with host := (s.host.drove 0).stuck true .emptyRead }

/-- REQUEUE_HELD, DISCARD_HELD and DELIVER_HELD (R30, R32, R41, R42): refused with NOT_HELD where
CMDARG names no HELD slot. REQUEUE_HELD puts the slot at the write queue's tail with the tag it has,
and a waiting WRITE unit takes it in the same event, as WAITING_HEAD_TAKEN gives (R26); DELIVER_HELD
puts it at the read queue's tail, READ_AVAILABLE set and the drain cursor 0 where that queue was
empty. That CMDSTAT shows index 0 with a refusal is the model's reading (log entry 39). -/
def Obligations.HeldSlotCommands : Prop :=
  (∀ s : State, (∀ n : SlotNo, s.host.cmdarg.toNat = n.val → (s.slot n).state ≠ .held) →
    exec .requeueHeld s = .next { s with host := s.host.answered .notHeld } ∧
    exec .discardHeld s = .next { s with host := s.host.answered .notHeld } ∧
    exec .deliverHeld s = .next { s with host := s.host.answered .notHeld }) ∧
  (∀ (s : State) (n : SlotNo), s.host.cmdarg.toNat = n.val → (s.slot n).state = .held →
    s.seq.work ≠ .waitHead →
    exec .requeueHeld s = .next { s with
      pool := { s.pool.put n { s.slot n with state := .queued } with
        writeQ := s.pool.writeQ ++ [n] }
      host := s.host.answered .accepted }) ∧
  (∀ (s : State) (n : SlotNo), s.host.cmdarg.toNat = n.val → (s.slot n).state = .held →
    s.seq.work = .waitHead →
    exec .requeueHeld s = exec .waitingHeadTaken { s with
      pool := { s.pool.put n { s.slot n with state := .queued } with
        writeQ := s.pool.writeQ ++ [n] }
      host := s.host.answered .accepted }) ∧
  ∀ (s : State) (n : SlotNo), s.host.cmdarg.toNat = n.val → (s.slot n).state = .held →
    exec .deliverHeld s = .next { s with
      pool := { s.pool.put n { s.slot n with state := .ready } with
        readQ := s.pool.readQ ++ [n]
        drain := if s.pool.readQ = [] then 0 else s.pool.drain }
      host := if s.pool.readQ = [] then (s.host.answered .accepted).flagged .readAvailable
        else s.host.answered .accepted }

/-- READ_CLAIM_SERVED (R21, R22, R23, R29): a waiting READ unit is granted the lowest-numbered FREE
slot, which becomes ACTIVE with source MEDIUM, and goes on by asking for forward motion: from
STOPPED, with EOM absent, the transport enters STARTING forward. With no FREE slot, or no unit
waiting, nothing changes (the model's reading, log entry 3). -/
def Obligations.ReadClaimIsServed : Prop :=
  (∀ (s : State) (n : SlotNo), s.seq.state = .running → s.seq.work = .waitSlot →
    (s.slot n).state = .free → (∀ m, m < n → (s.slot m).state ≠ .free) →
    s.xp.motion = .stopped → s.xp.levels.eom = false →
    ∃ t, exec .readClaimServed s = .next t ∧
      t.pool = s.pool.put n
        { SlotRecord.free with state := .active, source := some .medium, kind := some .data } ∧
      t.seq = { s.seq with work := .read n } ∧ t.xp.motion = .starting ∧ t.xp.dir = .forward ∧
      t.xp.rampTimer = some s.xp.timing.startRamp ∧ t.xp.timing = s.xp.timing ∧
      t.xp.levels = s.xp.levels ∧ t.pos = s.pos ∧ t.host = s.host ∧ t.stream = s.stream ∧
      t.capture = s.capture ∧ t.pending = s.pending) ∧
  (∀ s : State, (∀ n, (s.slot n).state ≠ .free) → exec .readClaimServed s = .next s) ∧
  ∀ s : State, s.seq.work ≠ .waitSlot → exec .readClaimServed s = .next s

/-- WAITING_HEAD_TAKEN (R26, R60, R98, R156): a waiting WRITE unit takes the head of the write
queue, which becomes ACTIVE with REWRITTEN cleared, and begins: from STOPPED, with WPERMIT present,
EOM absent and the zone known, the transport enters STARTING forward and the channel holds the unit
in IDLE. With WPERMIT absent, the zone UNKNOWN or EOM present the entry ends WRITE_PROTECTED,
POSITION_UNKNOWN or EOM_MET, in that order, and the list TERMINAL; that the queue then stays as it
is, REWRITTEN included, is the model's reading (log entry 25). With nothing queued, or no unit
waiting, nothing changes (the model's reading, log entry 3). -/
def Obligations.WaitingHeadIsTaken : Prop :=
  (∀ (s : State) (n : SlotNo) q, s.seq.state = .running → s.seq.work = .waitHead →
    s.pool.writeQ = n :: q → s.entry.opcode = 0x01 → s.xp.levels.wpermit = true →
    s.pos.zone ≠ .unknown → s.xp.levels.eom = false → s.xp.motion = .stopped →
    s.wch.phase = .idle →
    ∃ t u, exec .waitingHeadTaken s = .next t ∧
      t.pool = { s.pool.put n { s.slot n with state := .active, rewritten := false } with
        writeQ := q } ∧
      t.seq = { s.seq with work := .writeSlot n } ∧ t.xp.motion = .starting ∧
      t.xp.dir = .forward ∧ t.xp.rampTimer = some s.xp.timing.startRamp ∧
      t.wch.held = some (.write u) ∧ u.target = .slot n ∧ u.tag = (s.slot n).tag ∧
      u.reattempt = false ∧ u.verify = s.entry.verify ∧ t.wch.phase = .idle ∧
      t.wch.wgate = false ∧ t.wch.egate = false ∧ t.pos = s.pos ∧ t.host = s.host ∧
      t.stream = s.stream ∧ t.capture = s.capture ∧ t.pending = s.pending) ∧
  (∀ (s : State) (o : EntryOutcome), s.seq.state = .running → s.seq.work = .waitHead →
    s.pool.writeQ ≠ [] → s.entry.opcode = 0x01 → s.host.results.length < 16 →
    s.xp.motion = .stopped →
    s.xp.levels.wpermit = false ∨ s.pos.zone = .unknown ∨ s.xp.levels.eom = true →
    o = (if s.xp.levels.wpermit = false then .writeProtected
      else if s.pos.zone = .unknown then .positionUnknown else .eomMet) →
    ∃ t r, exec .waitingHeadTaken s = .next t ∧ s.listEndedWith t r o .terminal ∧
      r.record = s.seq.record ∧ r.index = s.seq.cur ∧ t.pool = s.pool ∧ t.xp.motion = .stopped ∧
      t.wch = s.wch ∧ t.pos = s.pos ∧ t.stream = s.stream ∧ t.capture = s.capture) ∧
  (∀ s : State, s.pool.writeQ = [] → exec .waitingHeadTaken s = .next s) ∧
  ∀ s : State, s.seq.work ≠ .waitHead → exec .waitingHeadTaken s = .next s

/-! ## The stream port -/

/-- The setting writes of the stream port (R170): stored with clamping while the port is OFF,
CLAMPED telling a value stored other than as written, and refused with PORT_BUSY otherwise. SCLK and
SFRM follow the mode and the port state (R168, R173): inputs in SLAVE mode; in MASTER mode low while
the port is OFF, and carrying the pacing sequence while it is on. That CMDSTAT shows index 0 with a
refusal is the model's reading (log entry 39). -/
def Obligations.StreamSettingWrites : Prop :=
  (∀ p : StreamPort, p.clockDrive = if p.master = false then .input
    else if p.state = .off then .low else .pacing) ∧
  (∀ b (s : State), s.stream.state = .off → exec (.strctlWrite b) s = .next { s with
    stream := { s.stream with master := b.getLsbD 0, reserve := min 3 (b.toNat / 2 % 8) }
    host := (s.host.stuck (decide (3 < b.toNat / 2 % 8)) .clamped).answered .accepted }) ∧
  (∀ b (s : State), s.stream.state = .off → exec (.strlenWrite b) s = .next { s with
    stream := { s.stream with
      strlen := max 2 (min 1024 (256 * b.toNat + s.host.holdStrlen.toNat)) }
    host := (s.host.stuck (decide (256 * b.toNat + s.host.holdStrlen.toNat < 2 ∨
      1024 < 256 * b.toNat + s.host.holdStrlen.toNat)) .clamped).answered .accepted }) ∧
  (∀ b (s : State), s.stream.state = .off → exec (.paceDivisorWrite b) s = .next { s with
    stream := { s.stream with
      divisor := max 16 (min 4095 (256 * b.toNat + s.host.holdPace.toNat)) }
    host := (s.host.stuck (decide (256 * b.toNat + s.host.holdPace.toNat < 16 ∨
      4095 < 256 * b.toNat + s.host.holdPace.toNat)) .clamped).answered .accepted }) ∧
  (∀ b (s : State), s.stream.state = .off → exec (.paceFractionWrite b) s = .next { s with
    stream := { s.stream with fraction := min 15 b.toNat }
    host := (s.host.stuck (decide (15 < b.toNat)) .clamped).answered .accepted }) ∧
  ∀ b (s : State), s.stream.state ≠ .off →
    exec (.strctlWrite b) s = .next { s with host := s.host.answered .portBusy } ∧
    exec (.strlenWrite b) s = .next { s with host := s.host.answered .portBusy } ∧
    exec (.paceDivisorWrite b) s = .next { s with host := s.host.answered .portBusy } ∧
    exec (.paceFractionWrite b) s = .next { s with host := s.host.answered .portBusy }

/-- STREAM_ON (R175): PORT_BUSY unless the port is OFF, BAD_LENGTH where STRLEN is odd; otherwise
the session begins with a stream claim, granted where the free count is greater than the reserve. In
MASTER mode the first word interval begins, the claim granted or not, judged from an accumulator of
0, and SCLK and SFRM carry the pacing sequence (R173, R174). STREAM_CLAIM_RETRY (R37, R177): a
STARVED port's claim is granted on the same terms, the port then FILLING with loss noted cleared;
otherwise nothing changes (the model's reading, log entry 3). That CMDSTAT shows index 0 with a
refusal is the model's reading (log entry 39). -/
def Obligations.StreamClaims : Prop :=
  (∀ s : State, s.stream.state ≠ .off →
    exec .streamOn s = .next { s with host := s.host.answered .portBusy }) ∧
  (∀ s : State, s.stream.state = .off → s.stream.strlen % 2 = 1 →
    exec .streamOn s = .next { s with host := s.host.answered .badLength }) ∧
  (∀ (s : State) (n : SlotNo), s.stream.state = .off → s.stream.strlen % 2 = 0 →
    s.stream.reserve < s.pool.freeCount → (s.slot n).state = .free →
    (∀ m, m < n → (s.slot m).state ≠ .free) → s.stream.fraction < 16 →
    ∃ t, exec .streamOn s = .next t ∧
      t = { s with
        pool := s.pool.put n
          { SlotRecord.free with state := .filling, source := some .stream, kind := some .data }
        stream := { s.stream with
          state := .filling, bits := [], discontinuity := false, lossNoted := false
          acc := if s.stream.master then s.stream.fraction else 0
          edges := t.stream.edges, longInterval := t.stream.longInterval }
        host := s.host.answered .accepted } ∧
      (s.stream.master = true → t.stream.edges = 0 ∧ t.stream.longInterval = false ∧
        t.stream.clockDrive = .pacing ∧ t.stream.sfrmOut = true)) ∧
  (∀ s : State, s.stream.state = .off → s.stream.strlen % 2 = 0 →
    s.pool.freeCount ≤ s.stream.reserve → s.stream.fraction < 16 →
    ∃ t, exec .streamOn s = .next t ∧
      t = { s with
        stream := { s.stream with
          state := .starved, bits := [], discontinuity := false, lossNoted := false
          acc := if s.stream.master then s.stream.fraction else 0
          edges := t.stream.edges, longInterval := t.stream.longInterval }
        host := s.host.answered .accepted } ∧
      (s.stream.master = true → t.stream.edges = 0 ∧ t.stream.longInterval = false ∧
        t.stream.clockDrive = .pacing ∧ t.stream.sfrmOut = true)) ∧
  (∀ (s : State) (n : SlotNo), s.stream.state = .starved → s.stream.reserve < s.pool.freeCount →
    (s.slot n).state = .free → (∀ m, m < n → (s.slot m).state ≠ .free) →
    exec .streamClaimRetry s = .next { s with
      pool := s.pool.put n
        { SlotRecord.free with state := .filling, source := some .stream, kind := some .data }
      stream := { s.stream with state := .filling, lossNoted := false } }) ∧
  (∀ s : State, s.stream.state = .starved → s.pool.freeCount ≤ s.stream.reserve →
    exec .streamClaimRetry s = .next s) ∧
  ∀ s : State, s.stream.state ≠ .starved → exec .streamClaimRetry s = .next s

/-- STREAM_OFF (R180): always accepted, without effect in OFF. Otherwise the port returns to OFF,
SCLK and SFRM low in MASTER mode; a fill slot of 2 bytes or more is queued at the tail with the next
tag, and with DISCONTINUITY where it was pending, and a waiting WRITE unit takes it in the same
event, as WAITING_HEAD_TAKEN gives; an empty one becomes FREE, and is granted to a waiting READ
unit, which goes on forward. -/
def Obligations.StreamOffSettlesTheFillSlot : Prop :=
  (∀ s : State, s.stream.state = .off →
    exec .streamOff s = .next { s with host := s.host.answered .accepted }) ∧
  (∀ s : State, s.stream.state ≠ .off → s.pool.streamFill = none →
    exec .streamOff s = .next { s with
      stream := s.stream.stopped, host := s.host.answered .accepted }) ∧
  (∀ (s : State) (n : SlotNo), s.stream.state ≠ .off → s.pool.streamFill = some n →
    2 ≤ (s.slot n).length → s.seq.work ≠ .waitHead →
    exec .streamOff s = .next { s with
      pool := { s.pool.put n { s.slot n with
          state := .queued, tag := some s.pool.tag, discontinuity := s.stream.discontinuity } with
        writeQ := s.pool.writeQ ++ [n]
        tag := s.pool.tag + 1 }
      stream := s.stream.stopped
      host := s.host.answered .accepted }) ∧
  (∀ (s : State) (n : SlotNo), s.stream.state ≠ .off → s.pool.streamFill = some n →
    (s.slot n).length < 2 → s.seq.work ≠ .waitSlot →
    exec .streamOff s = .next { s with
      pool := s.pool.put n SlotRecord.free
      stream := s.stream.stopped
      host := if s.pool.freeCount = 0 then (s.host.answered .accepted).flagged .slotFreed
        else s.host.answered .accepted }) ∧
  (∀ (s : State) (n : SlotNo), s.stream.state ≠ .off → s.pool.streamFill = some n →
    2 ≤ (s.slot n).length → s.seq.work = .waitHead →
    exec .streamOff s = exec .waitingHeadTaken { s with
      pool := { s.pool.put n { s.slot n with
          state := .queued, tag := some s.pool.tag, discontinuity := s.stream.discontinuity } with
        writeQ := s.pool.writeQ ++ [n]
        tag := s.pool.tag + 1 }
      stream := s.stream.stopped
      host := s.host.answered .accepted }) ∧
  (∀ (s : State) (n : SlotNo), s.stream.state ≠ .off → s.pool.streamFill = some n →
    (s.slot n).length < 2 → s.seq.state = .running → s.seq.work = .waitSlot →
    (∀ m, (s.slot m).state ≠ .free) → s.xp.levels.eom = false →
    s.xp.motion = .stopped ∨ (s.xp.motion = .running ∧ s.xp.dir = .forward) →
    ∃ t, exec .streamOff s = .next t ∧
      t.pool = s.pool.put n
        { SlotRecord.free with state := .active, source := some .medium, kind := some .data } ∧
      t.stream = s.stream.stopped ∧ t.host = s.host.answered .accepted ∧
      t.seq = { s.seq with work := .read n } ∧
      t.xp.motion = (if s.xp.motion = .stopped then .starting else .running) ∧
      t.xp.dir = .forward ∧ t.xp.lingerTimer = none ∧ t.pos = s.pos ∧ t.capture = s.capture ∧
      t.pending = s.pending) ∧
  ∀ p : StreamPort, p.stopped.clockDrive = (if p.master then .low else .input) ∧
    p.stopped.state = .off ∧ p.stopped.bits = [] ∧ p.stopped.discontinuity = false ∧
    p.stopped.lossNoted = false ∧ p.stopped.srdy = false ∧ p.stopped.strlen = p.strlen ∧
    p.stopped.reserve = p.reserve ∧ p.stopped.divisor = p.divisor ∧
    p.stopped.fraction = p.fraction ∧ p.stopped.master = p.master

/-- A rising edge of SCLK (R171 to R173): in OFF it is not looked at. In SLAVE mode a word start
takes the bit as the first of a new word, a further bit joins the word in progress, and a bit
without a word is ignored; a word start within a word is a framing error, which discards the
assembled bits, begins a new word with the bit sampled, makes discontinuity pending and sets
STREAM_LOSS. In MASTER mode the first edge of an interval, at which the port drives SFRM high, is
the word start, whatever the front end shows. R173 has no edge after the sixteenth of an interval;
that one changes nothing is the model's reading (log entry 3). The edge that takes the sixteenth bit
of a word is STREAM_WORD_COMPLETE. -/
def Obligations.ClockEdgesAssembleWords : Prop :=
  (∀ f b (s : State), s.stream.state = .off → exec (.sclkRisingEdge f b) s = .next s) ∧
  (∀ b (s : State), s.stream.state ≠ .off → s.stream.master = false → s.stream.bits = [] →
    exec (.sclkRisingEdge true b) s = .next { s with stream := { s.stream with bits := [b] } } ∧
    exec (.sclkRisingEdge false b) s = .next s) ∧
  (∀ b (s : State), s.stream.state ≠ .off → s.stream.master = false → s.stream.bits ≠ [] →
    s.stream.bits.length < 15 →
    exec (.sclkRisingEdge false b) s = .next { s with
      stream := { s.stream with bits := s.stream.bits ++ [b] } }) ∧
  (∀ s : State, s.stream.state ≠ .off → s.stream.master = true →
    (s.stream.sfrmOut = true ↔ s.stream.edges = 0)) ∧
  (∀ f b (s : State), s.stream.state ≠ .off → s.stream.master = true → s.stream.edges = 0 →
    exec (.sclkRisingEdge f b) s = .next { s with
      stream := { s.stream with bits := [b], edges := 1 } }) ∧
  (∀ f b (s : State), s.stream.state ≠ .off → s.stream.master = true → 0 < s.stream.edges →
    s.stream.edges < 16 → s.stream.bits.length < 15 →
    exec (.sclkRisingEdge f b) s = .next { s with
      stream := { s.stream with bits := s.stream.bits ++ [b], edges := s.stream.edges + 1 } }) ∧
  (∀ f b (s : State), s.stream.master = true → 16 ≤ s.stream.edges →
    exec (.sclkRisingEdge f b) s = .next s) ∧
  (∀ f b (s : State), s.stream.state ≠ .off → s.stream.bits.length = 15 →
    s.stream.master = true ∨ f = false →
    exec (.sclkRisingEdge f b) s = exec (.streamWordComplete b) s) ∧
  ∀ b (s : State), s.stream.state ≠ .off → s.stream.master = false → s.stream.bits ≠ [] →
    exec (.framingError b) s = .next { s with
      stream := { s.stream with bits := [b], discontinuity := true }
      host := s.host.flagged .streamLoss } ∧
    exec (.sclkRisingEdge true b) s = exec (.framingError b) s

/-- STREAM_WORD_COMPLETE, in SLAVE mode and, counting one more edge of the interval, in MASTER mode
(R25, R26, R38, R171, R173, R176, R177). A word completed in FILLING is stored high byte first at
the fill slot's length, which rises by two, every other byte of the pool as before. The word that
fills the slot to STRLEN queues it at the tail with the next tag and the pending discontinuity,
which is cleared; a WRITE unit that waits takes the head, and the port then makes a new claim, as
STREAM_CLAIM_RETRY gives: with no WRITE unit waiting, and the free count not greater than the
reserve, it is STARVED. A word completed in STARVED is lost: discontinuity becomes pending, and
STREAM_LOSS is set once in the starved episode. -/
def Obligations.WordsAreStoredOrLost : Prop :=
  ∀ b (s : State) (e : Nat), s.stream.bits.length = 15 →
    (s.stream.master = false ∧ e = s.stream.edges) ∨
      (s.stream.master = true ∧ 0 < s.stream.edges ∧ s.stream.edges < 16 ∧
        e = s.stream.edges + 1) →
    (∀ n : SlotNo, s.stream.state = .filling → s.pool.streamFill = some n →
      s.stream.strlen ≤ 1024 → (s.slot n).length + 2 < s.stream.strlen → s.pool.data.wf = true →
      ∃ t, exec (.streamWordComplete b) s = .next t ∧
        t = { s with
          pool := { s.pool.put n { s.slot n with length := (s.slot n).length + 2 } with
            data := t.pool.data }
          stream := { s.stream with bits := [], edges := e } } ∧
        (t.pool.data.read (1024 * n.val + (s.slot n).length)).toNat * 256 +
          (t.pool.data.read (1024 * n.val + (s.slot n).length + 1)).toNat =
            bitsValue (s.stream.bits ++ [b]) ∧
        ∀ k, k ≠ 1024 * n.val + (s.slot n).length → k ≠ 1024 * n.val + (s.slot n).length + 1 →
          t.pool.data.read k = s.pool.data.read k) ∧
    (s.stream.state = .starved →
      exec (.streamWordComplete b) s = .next { s with
        stream := { s.stream with bits := [], edges := e, discontinuity := true, lossNoted := true }
        host := if s.stream.lossNoted then s.host else s.host.flagged .streamLoss }) ∧
    ∀ n : SlotNo, s.stream.state = .filling → s.pool.streamFill = some n →
      s.stream.strlen ≤ 1024 → (s.slot n).length + 2 = s.stream.strlen → s.pool.data.wf = true →
      ∃ u, u = { s with
          pool := { s.pool.put n { s.slot n with
              length := (s.slot n).length + 2, state := .queued, tag := some s.pool.tag
              discontinuity := s.stream.discontinuity } with
            writeQ := s.pool.writeQ ++ [n]
            tag := s.pool.tag + 1
            data := u.pool.data }
          stream := { s.stream with bits := [], edges := e, discontinuity := false } } ∧
        (u.pool.data.read (1024 * n.val + (s.slot n).length)).toNat * 256 +
          (u.pool.data.read (1024 * n.val + (s.slot n).length + 1)).toNat =
            bitsValue (s.stream.bits ++ [b]) ∧
        (∀ k, k ≠ 1024 * n.val + (s.slot n).length → k ≠ 1024 * n.val + (s.slot n).length + 1 →
          u.pool.data.read k = s.pool.data.read k) ∧
        (∃ v, exec .waitingHeadTaken u = .next v ∧
          exec (.streamWordComplete b) s =
            exec .streamClaimRetry { v with stream := { v.stream with state := .starved } }) ∧
        (s.seq.work ≠ .waitHead → s.pool.freeCount ≤ s.stream.reserve →
          exec (.streamWordComplete b) s = .next { u with
            stream := { u.stream with state := .starved } })

/-- PACING_INTERVAL_START (R174): F is added to the accumulator; from a sum of 16 or more, 16 is
subtracted and the interval is long, and otherwise it is short. From any accumulator, exactly F long
intervals fall in 16 consecutive ones. R173 has no interval in SLAVE mode and in OFF; that the
command changes nothing there is the model's reading (log entry 3). -/
def Obligations.PacingSpreadsTheFraction : Prop :=
  (∀ s : State, s.stream.state ≠ .off → s.stream.master = true →
    s.stream.acc + s.stream.fraction < 16 →
    exec .pacingIntervalStart s = .next { s with stream :=
      { s.stream with acc := s.stream.acc + s.stream.fraction, longInterval := false, edges := 0 } }) ∧
  (∀ s : State, s.stream.state ≠ .off → s.stream.master = true →
    16 ≤ s.stream.acc + s.stream.fraction →
    exec .pacingIntervalStart s = .next { s with stream :=
      { s.stream with
        acc := s.stream.acc + s.stream.fraction - 16, longInterval := true, edges := 0 } }) ∧
  (∀ s : State, s.stream.state = .off ∨ s.stream.master = false →
    exec .pacingIntervalStart s = .next s) ∧
  ∀ p : StreamPort, p.acc < 16 → p.fraction < 16 → p.longIntervals 16 = p.fraction

/-! ## The sequencer -/

/-- START refused (R56): BUSY outside IDLE; in IDLE, BAD_LIST with the index of the first bad entry,
main entries first. That CMDSTAT shows index 0 with BUSY is the model's reading (log entry 39). -/
def Obligations.StartRefusals : Prop :=
  (∀ s : State, s.seq.state ≠ .idle →
    exec .start s = .next { s with host := s.host.answered .busy }) ∧
  (∀ (s : State) i, s.seq.state = .idle → i < s.seq.ctl.mainLength → (s.seq.main i).badMain = true →
    (∀ j, j < i → (s.seq.main j).badMain = false) →
    exec .start s = .next { s with
      host := { s.host.answered .badList with cmdIndex := BitVec.ofNat 4 i } }) ∧
  (∀ (s : State) i, s.seq.state = .idle → i < s.seq.ctl.recLength →
    (s.seq.recovery i).badRecovery = true →
    (∀ j, j < s.seq.ctl.mainLength → (s.seq.main j).badMain = false) →
    (∀ j, j < i → (s.seq.recovery j).badRecovery = false) →
    exec .start s = .next { s with
      host := { s.host.answered .badList with cmdIndex := BitVec.ofNat 4 (8 + i) } }) ∧
  (∀ e : ListEntry, e.badMain = true ↔
    (e.opcode ∉ ([0x01, 0x02, 0x03, 0x04, 0x05, 0x06, 0x07, 0x08, 0x09, 0x0A] : List Byte) ∨
      (e.opcode ∈ ([0x02, 0x06, 0x07, 0x08] : List Byte) ∧ e.count = 0) ∨ 7 < e.budget.toNat)) ∧
  ∀ e : ListEntry, e.badRecovery = true ↔
    (e.opcode ∉ ([0x04, 0x05, 0x08, 0x11, 0x12, 0x13] : List Byte) ∨
      (e.opcode ∈ ([0x04, 0x05, 0x08] : List Byte) ∧ e.count = 0))

/-- START accepted (R47, R57, R59, R153): the list begins at M0 with the cycle count 0, the cause
NONE, the stop indication clear, a fresh entry record and an EMPTY tag memory. With M0 a SPACE or
SEEK, the transport STOPPED and the marker level of that direction absent, the tape starts in that
direction. A WRITE takes the head of the write queue or waits for one, a READ the lowest FREE slot
or waits for one with the tape started (R48, R50, R134); a MARK and an ERASE wait at the channel for
RUNNING forward (R49, R53), the file map as it was until then (the model's reading, log entry 48);
REWIND and UNLOAD rewind, also from FAULT with READY present, or, with
BOM present, end or eject at once (R54, R160, R161). An entry that fails a check of R59 ends with
the check's outcome, the tape as it was; a terminal one ends the list TERMINAL, and EW_MET with
HALT_ON_SHORT ends it COMPLETED (R64). -/
def Obligations.StartBeginsTheList : Prop :=
  (∀ (s : State) (d : Dir) (w : Work), s.seq.state = .idle → s.seq.firstBad = none →
    ((s.seq.listMem.read 0 = 0x04 ∧ d = .forward ∧ w = .space .forward) ∨
      (s.seq.listMem.read 0 = 0x05 ∧ d = .reverse ∧ w = .space .reverse) ∨
      (s.seq.listMem.read 0 = 0x06 ∧ d = .forward ∧ w = .seek .forward) ∨
      (s.seq.listMem.read 0 = 0x07 ∧ d = .reverse ∧ w = .seek .reverse)) →
    s.xp.motion = .stopped → (d = .forward → s.xp.levels.eom = false) →
    (d = .reverse → s.xp.levels.bom = false) →
    ∃ t, exec .start s = .next t ∧ t.host = s.host.answered .accepted ∧
      t.seq = { s.seq with
        state := .running, stopInd := false, cur := 0, record := .clear, work := w, cycle := 0
        endCause := .none } ∧
      t.xp.motion = .starting ∧ t.xp.dir = d ∧ t.xp.rampTimer = some s.xp.timing.startRamp ∧
      t.xp.levels = s.xp.levels ∧ t.xp.timing = s.xp.timing ∧ t.rch.tagMem = none ∧
      t.pool = s.pool ∧ t.pos = s.pos ∧ t.stream = s.stream ∧ t.capture = s.capture ∧
      t.pending = s.pending ∧ t.wch.wgate = false ∧ t.wch.egate = false) ∧
  (∀ (s : State) (q : Sequencer) (op flags : Byte), op = s.seq.listMem.read 0 →
    flags = s.seq.listMem.read 2 → op ∈ ([0x01, 0x02, 0x03, 0x08, 0x09, 0x0A] : List Byte) →
    s.seq.state = .idle → s.seq.firstBad = none → s.wch.phase = .idle →
    s.xp.motion = .stopped ∨
      (s.xp.motion = .fault ∧ s.xp.levels.ready = true ∧ op ∈ ([0x09, 0x0A] : List Byte)) →
    (op ∈ ([0x01, 0x02, 0x08] : List Byte) → s.xp.levels.wpermit = true ∧ s.pos.zone ≠ .unknown ∧
      (flags.getLsbD 3 = false ∨ s.pos.zone ≠ .pastEw)) →
    (op ∈ ([0x01, 0x02, 0x03, 0x08] : List Byte) → s.xp.levels.eom = false) →
    (op = 0x09 → s.xp.levels.bom = false) →
    q = { s.seq with
      state := .running, stopInd := false, cur := 0, record := .clear, cycle := 0
      endCause := .none } →
    ∃ t, exec .start s = .next t ∧ t.host = s.host.answered .accepted ∧ t.rch.tagMem = none ∧
      t.xp.levels = s.xp.levels ∧ t.xp.timing = s.xp.timing ∧ t.stream = s.stream ∧
      t.capture = s.capture ∧ t.pending = s.pending ∧
      (s.wch.wgate = false → t.wch.wgate = false) ∧ (s.wch.egate = false → t.wch.egate = false) ∧
      (op = 0x01 → s.pool.writeQ = [] →
        t.seq = { q with work := .waitHead } ∧ t.pool = s.pool ∧ t.pos = s.pos ∧
        t.xp.motion = .stopped) ∧
      (∀ n l, op = 0x01 → s.pool.writeQ = n :: l →
        t.seq = { q with work := .writeSlot n } ∧ t.pos = s.pos ∧
        t.pool = { s.pool.put n { s.slot n with state := .active, rewritten := false } with
          writeQ := l } ∧
        t.xp.motion = .starting ∧ t.xp.dir = .forward ∧ ∃ u, t.wch.held = some (.write u) ∧
          u.target = .slot n ∧ u.tag = (s.slot n).tag ∧ u.reattempt = false ∧
          u.verify = flags.getLsbD 0) ∧
      (op = 0x02 → t.seq = { q with work := .writeMark } ∧ t.pool = s.pool ∧ t.pos = s.pos ∧
        t.xp.motion = .starting ∧ t.xp.dir = .forward ∧ ∃ u, t.wch.held = some (.write u) ∧
          u.target = .markUnit ∧ u.kind = .mark ∧ u.tag = none ∧ u.reattempt = false ∧
          u.verify = flags.getLsbD 0) ∧
      (∀ n, op = 0x03 → (s.slot n).state = .free → (∀ m, m < n → (s.slot m).state ≠ .free) →
        t.seq = { q with work := .read n } ∧ t.pos = s.pos ∧
        t.pool = s.pool.put n
          { SlotRecord.free with state := .active, source := some .medium, kind := some .data } ∧
        t.xp.motion = .starting ∧ t.xp.dir = .forward ∧ t.xp.keptIdle = false) ∧
      (op = 0x03 → (∀ n, (s.slot n).state ≠ .free) →
        t.seq = { q with work := .waitSlot } ∧ t.pool = s.pool ∧ t.pos = s.pos ∧
        t.xp.motion = .starting ∧ t.xp.dir = .forward ∧ t.xp.keptIdle = true) ∧
      (op = 0x08 → t.seq = { q with work := .erase } ∧ t.pool = s.pool ∧ t.pos = s.pos ∧
        t.xp.motion = .starting ∧ t.xp.dir = .forward ∧ t.wch.held = some .erase) ∧
      (op = 0x09 → t.seq = { q with work := .rewind } ∧ t.pool = s.pool ∧
        t.pos = { s.pos with zone := .unknown, file := none, block := none } ∧
        t.xp.motion = .rewinding ∧ t.xp.rewindTimer = some s.xp.timing.rewindLimit) ∧
      (op = 0x0A → t.seq = { q with work := .unload } ∧ t.pool = s.pool ∧
        (s.xp.levels.bom = false → t.xp.motion = .rewinding ∧ t.xp.unloadInd = true ∧
          t.pos = { s.pos with zone := .unknown, file := none, block := none }) ∧
        (s.xp.levels.bom = true → t.xp.motion = .unloading ∧ t.xp.unloadLine = true ∧
          t.pos = { s.pos with zone := .atBom, file := some 0, block := some 0 }))) ∧
  (∀ s : State, s.seq.state = .idle → s.seq.firstBad = none → s.seq.listMem.read 0 = 0x09 →
    s.xp.levels.bom = true →
    s.xp.motion = .stopped ∨ (s.xp.motion = .fault ∧ s.xp.levels.ready = true) →
    s.seq.ctl.mainLength = 1 → s.seq.ctl.cycle = false → s.host.results.length < 16 →
    ∃ t r, exec .start s = .next t ∧ t.host.cmdstat = .accepted ∧
      s.listEndedWith t r .done .completed ∧ r.index = 0 ∧ r.record = .clear ∧
      t.pos = { s.pos with zone := .atBom, file := some 0, block := some 0 } ∧
      t.xp.motion = .stopped ∧ t.pool = s.pool ∧ t.stream = s.stream ∧ t.capture = s.capture) ∧
  (∀ (s : State) (op : Byte) (o : EntryOutcome), op = s.seq.listMem.read 0 →
    s.seq.state = .idle → s.seq.firstBad = none → s.host.results.length < 16 →
    (s.xp.motion ∈ [.noCartridge, .notReady] ∧ o = .notReady) ∨
      (s.xp.motion = .fault ∧ op ∉ ([0x09, 0x0A] : List Byte) ∧ o = .transportFault) ∨
      (s.xp.motion = .fault ∧ op ∈ ([0x09, 0x0A] : List Byte) ∧ s.xp.levels.ready = false ∧
        o = .notReady) ∨
      (s.xp.motion ∉ [.noCartridge, .notReady, .fault] ∧
        ((op ∈ ([0x01, 0x02, 0x08] : List Byte) ∧ s.xp.levels.wpermit = false ∧
            o = .writeProtected) ∨
          (op ∈ ([0x01, 0x02, 0x08] : List Byte) ∧ s.xp.levels.wpermit = true ∧
            s.pos.zone = .unknown ∧ o = .positionUnknown) ∨
          (op ∈ ([0x01, 0x02, 0x03, 0x04, 0x06, 0x08] : List Byte) ∧
            (op ∈ ([0x01, 0x02, 0x08] : List Byte) → s.xp.levels.wpermit = true ∧
              s.pos.zone ≠ .unknown) ∧ s.xp.levels.eom = true ∧ o = .eomMet))) →
    ∃ t r, exec .start s = .next t ∧ t.host.cmdstat = .accepted ∧
      s.listEndedWith t r o .terminal ∧ r.index = 0 ∧ r.record = .clear ∧ t.pool = s.pool ∧
      t.pos = s.pos ∧ t.stream = s.stream ∧ t.capture = s.capture ∧
      (s.xp.motion ∉ [.starting, .running, .stopping] → t.xp.motion = s.xp.motion)) ∧
  ∀ s : State, s.seq.state = .idle → s.seq.firstBad = none → s.host.results.length < 16 →
    s.xp.motion = .stopped → s.seq.listMem.read 0 ∈ ([0x01, 0x02, 0x08] : List Byte) →
    (s.seq.listMem.read 2).getLsbD 3 = true → (s.seq.listMem.read 2).getLsbD 2 = true →
    s.xp.levels.wpermit = true → s.xp.levels.eom = false → s.pos.zone = .pastEw →
    ∃ t r, exec .start s = .next t ∧ t.host.cmdstat = .accepted ∧
      s.listEndedWith t r .ewMet .completed ∧ r.index = 0 ∧ r.record = .clear ∧
      t.pool = s.pool ∧ t.pos = s.pos ∧ t.xp.motion = .stopped ∧ t.stream = s.stream ∧
      t.capture = s.capture

/-- STOP (R69, R70): refused with BUSY in FROZEN, ABORTING and IDLE; accepted without effect in
STOPPING; in RECOVERY and POST_WAIT it sets the stop indication; in RUNNING an ERASE, a REWIND or an
UNLOAD runs to its end in STOPPING, and so do a write unit whose block has begun and a READ, SPACE
or SEEK unit met within a burst. A unit that waits, a write unit whose block has not begun and a
READ, SPACE or SEEK unit met outside a burst end their entry STOPPED, which ends the list: the write
slot returns to the head of the write queue, the read slot becomes FREE, and a postamble of the
block before is written to its end. That CMDSTAT shows index 0 with a refusal is the model's reading
(log entry 39). -/
def Obligations.StopActsByState : Prop :=
  (∀ s : State, s.seq.state = .frozen ∨ s.seq.state = .aborting ∨ s.seq.state = .idle →
    exec .stop s = .next { s with host := s.host.answered .busy }) ∧
  (∀ s : State, s.seq.state = .stopping →
    exec .stop s = .next { s with host := s.host.answered .accepted }) ∧
  (∀ s : State, s.seq.state = .recovery ∨ s.seq.state = .postWait →
    exec .stop s = .next { s with
      seq := { s.seq with stopInd := true }, host := s.host.answered .accepted }) ∧
  (∀ s : State, s.seq.state = .running →
    s.seq.work = .erase ∨ s.seq.work = .rewind ∨ s.seq.work = .unload →
    exec .stop s = .next { s with
      seq := { s.seq with stopInd := true, state := .stopping }
      host := s.host.answered .accepted }) ∧
  (∀ s : State, s.seq.state = .running →
    (((∃ n, s.seq.work = .writeSlot n) ∨ s.seq.work = .writeMark) ∧
      ((s.wch.phase = .block ∧ s.wch.held = none) ∨ s.wch.phase = .after)) ∨
    ((∃ n, s.seq.work = .read n) ∨ (∃ d, s.seq.work = .space d ∨ s.seq.work = .seek d)) ∧
      s.rch.phase ≠ .silent →
    exec .stop s = .next { s with
      seq := { s.seq with stopInd := true, state := .stopping }
      host := s.host.answered .accepted }) ∧
  (∀ (s : State) (p : Pool), s.seq.state = .running → s.host.results.length < 16 →
    (∃ n, s.seq.work = .writeSlot n ∧ (s.slot n).state = .active ∧
      p = { s.pool.put n { s.slot n with state := .queued } with
        writeQ := n :: s.pool.writeQ }) ∨ (s.seq.work = .writeMark ∧ p = s.pool) →
    (s.wch.phase = .block ∧ s.wch.held ≠ none) ∨ s.wch.phase ∈ [.idle, .gap, .erasing] →
    ∃ t r, exec .stop s = .next t ∧ t.host.cmdstat = .accepted ∧
      s.listEndedWith t r .stopped .stopped ∧ r.index = s.seq.cur ∧ r.record = s.seq.record ∧
      t.pool = p ∧ (s.wch.phase = .block → t.wch = { s.wch with held := none }) ∧
      (s.wch.phase ≠ .block → t.wch = .reset) ∧ t.pos = s.pos ∧ t.stream = s.stream ∧
      t.capture = s.capture) ∧
  (∀ (s : State) (p : Pool), s.seq.state = .running → s.host.results.length < 16 →
    s.rch.phase = .silent →
    (∃ n, s.seq.work = .read n ∧ (s.slot n).state = .active ∧ s.stream.state ≠ .starved ∧
      p = s.pool.put n SlotRecord.free) ∨
    (∃ d, (s.seq.work = .space d ∨ s.seq.work = .seek d) ∧ p = s.pool) →
    ∃ t r, exec .stop s = .next t ∧ t.host.cmdstat = .accepted ∧
      s.listEndedWith t r .stopped .stopped ∧ r.index = s.seq.cur ∧ r.record = s.seq.record ∧
      t.pool = p ∧ t.pos = s.pos ∧ t.stream = s.stream ∧ t.capture = s.capture) ∧
  ∀ s : State, s.seq.state = .running → s.seq.work = .waitHead ∨ s.seq.work = .waitSlot →
    s.host.results.length < 16 →
    ∃ t r, exec .stop s = .next t ∧ t.host.results = s.host.results ++ [r] ∧
      r.outcome = .stopped ∧ r.index = s.seq.cur ∧ r.record = s.seq.record ∧
      r.cycle = s.seq.cycle ∧ t.host.cmdstat = .accepted ∧ t.event .resultPosted = true ∧
      t.event .listEnded = true ∧ t.seq.state = .idle ∧ t.seq.endCause = .stopped ∧
      t.pool = s.pool ∧ t.pos = s.pos ∧ t.stream = s.stream ∧ t.capture = s.capture ∧
      t.seq.listMem = s.seq.listMem ∧ t.pending = s.pending

/-- ABORT (R28, R30, R66, R67, R72, R73, R94): IDLE_STATE in IDLE, accepted without effect in
ABORTING. In RUNNING, STOPPING, RECOVERY and FROZEN the gates turn off with the channel IDLE and the
tape is asked to stop; a WRITE unit's slot returns to the head of the write queue with its tag, a
READ unit's slot becomes FREE, a wait is withdrawn, the failed slot of an episode becomes HELD or
joins the read queue DAMAGED, and the entry ends ABORTED, the unit not counted. The result is
posted, or, with the result queue full, stays pending with RESULT_STALL set, in ABORTING; with the
tape at rest and the result posted the list ends ABORTED, and that it does so in the event of ABORT
is the model's reading (log entry 6). In POST_WAIT ABORT enters ABORTING with the result still
pending and builds none; that it stops the tape and the channel there is the model's reading (log
entry 20). That a STOP taken in UNLOADING drops a held request is the model's reading (log entry
43), and so is that requests deferred until then are taken in the event, the stop then dropping what
they leave held (log entry 9): a deferred REVERSE that finds BOM present is BOM reached.
ABORTING_TO_IDLE (R65, R73): with the tape at rest and no result pending the list ends ABORTED; as
long as one of the two is missing, nothing changes (the model's reading, log entry 3). That CMDSTAT
shows index 0 with a refusal is the model's reading (log entry 39). -/
def Obligations.AbortActsByState : Prop :=
  (∀ s : State, s.seq.state = .idle →
    exec .abort s = .next { s with host := s.host.answered .idleState }) ∧
  (∀ s : State, s.seq.state = .aborting →
    exec .abort s = .next { s with host := s.host.answered .accepted }) ∧
  (∀ (s : State) (p : Pool), s.entryGivesBack p →
    s.xp.motion ∈ [.starting, .running] ∨ s.xp.deferred = [] →
    ∃ t r, exec .abort s = .next t ∧ t.host.cmdstat = .accepted ∧ t.pool = p ∧ t.wch = .reset ∧
      t.seq.stopInd = false ∧ t.seq.work = .none ∧ t.seq.episode = none ∧ s.stopTaken t ∧
      r.outcome = .aborted ∧ r.index = s.seq.cur ∧ r.record = s.seq.record ∧
      r.cycle = s.seq.cycle ∧
      (s.host.results.length < 16 →
        t.host.results = s.host.results ++ [r] ∧ t.seq.pendingResult = s.seq.pendingResult ∧
        t.event .resultPosted = true ∧
        (s.xp.motion.afterStop = .stopping → t.seq.state = .aborting) ∧
        (s.xp.motion.afterStop ≠ .stopping → s.seq.pendingResult = none →
          t.seq.state = .idle ∧ t.seq.endCause = .aborted ∧ t.event .listEnded = true)) ∧
      (16 ≤ s.host.results.length →
        t.host.results = s.host.results ∧ t.seq.pendingResult = some r ∧
        t.event .resultStall = true ∧ t.seq.state = .aborting) ∧
      t.pos = s.posSpent ∧ t.stream = s.stream ∧ t.capture = s.capture ∧
      t.seq.listMem = s.seq.listMem ∧ t.pending = s.pending) ∧
  (∀ (s : State) r, s.seq.state = .postWait → s.seq.pendingResult = some r →
    s.xp.motion ∈ [.starting, .running] ∨ s.xp.deferred = [] →
    ∃ t, exec .abort s = .next t ∧ t.host = s.host.answered .accepted ∧
      t.seq = { s.seq with state := .aborting } ∧ t.wch = .reset ∧ s.stopTaken t ∧
      t.pool = s.pool ∧ t.pos = s.posSpent ∧ t.stream = s.stream ∧ t.capture = s.capture ∧
      t.pending = s.pending) ∧
  (∀ s : State, s.seq.state = .aborting → s.seq.pendingResult = none →
    s.xp.motion ∈ [.stopped, .noCartridge, .notReady, .fault] →
    exec .abortingToIdle s = .next { s with
      seq := { s.seq with state := .idle, work := .none, episode := none, endCause := .aborted }
      xp := { s.xp with blankTimer := none }
      host := s.host.flagged .listEnded }) ∧
  ∀ s : State, s.seq.state ≠ .aborting ∨ s.seq.pendingResult ≠ none ∨
    s.xp.motion ∉ [.stopped, .noCartridge, .notReady, .fault] →
    exec .abortingToIdle s = .next s

/-- CONTINUE and RETRY (R85, R88, R91, R92): IDLE_STATE in IDLE, and BUSY in every other state but
FROZEN. From FROZEN, CONTINUE ends the episode SKIPPED: the failed WRITE slot becomes HELD and units
done and units skipped rise by one; where that reaches the count of a list's last entry, it ends
DONE and the list COMPLETED. RETRY, with the drive STOPPED, WPERMIT present, the zone known and EOM
absent, orders one re-attempt of the failed WRITE slot: attempts and retries used rise by one, the
budget is not lowered, no recovery entry is current, and the transport starts forward with the unit
held at the channel; that the slot's REWRITTEN stays as it was until the block opens is the model's
reading (log entry 41). That CMDSTAT shows index 0 with a refusal is the model's reading (log entry
39). -/
def Obligations.HostEndsTheFrozenState : Prop :=
  (∀ s : State, s.seq.state = .idle →
    exec .continueEpisode s = .next { s with host := s.host.answered .idleState } ∧
    exec .retry s = .next { s with host := s.host.answered .idleState }) ∧
  (∀ s : State, s.seq.state ≠ .idle → s.seq.state ≠ .frozen →
    exec .continueEpisode s = .next { s with host := s.host.answered .busy } ∧
    exec .retry s = .next { s with host := s.host.answered .busy }) ∧
  (∀ (s : State) (e : Episode) (n : SlotNo), s.seq.state = .frozen → s.seq.episode = some e →
    e.kind = .write → e.slot = some n → (s.slot n).state = .active →
    s.entry.count.toNat = s.seq.record.unitsDone + 1 → s.lastEntry → s.host.results.length < 16 →
    ∃ t r, exec .continueEpisode s = .next t ∧ t.host.cmdstat = .accepted ∧
      t.pool = s.pool.put n { s.slot n with state := .held } ∧
      t.host.results = s.host.results ++ [r] ∧ r.outcome = .done ∧
      r.record = { s.seq.record with
        unitsDone := s.seq.record.unitsDone + 1, skipped := bump s.seq.record.skipped } ∧
      t.seq.state = .idle ∧ t.seq.episode = none ∧ t.seq.endCause = .completed ∧
      t.event .listEnded = true ∧ t.capture = s.capture ∧ t.pos = s.pos ∧ t.stream = s.stream ∧
      t.pending = s.pending) ∧
  ∀ (s : State) (e : Episode) (n : SlotNo), s.seq.state = .frozen → s.seq.episode = some e →
    e.kind = .write → e.slot = some n → e.cur = none → s.xp.motion = .stopped →
    s.xp.levels.wpermit = true → s.pos.zone ≠ .unknown → s.xp.levels.eom = false →
    s.wch.phase = .idle →
    ∃ t u, exec .retry s = .next t ∧ t.host = s.host.answered .accepted ∧
      t.seq = { s.seq with
        state := .recovery, work := .writeSlot n
        episode := some { e with attempts := bump e.attempts }
        record := { s.seq.record with retries := bump s.seq.record.retries } } ∧
      t.xp.motion = .starting ∧ t.xp.dir = .forward ∧
      t.xp.rampTimer = some s.xp.timing.startRamp ∧ t.wch.phase = .idle ∧
      t.wch.held = some (.write u) ∧ u.target = .slot n ∧ u.reattempt = true ∧
      u.tag = (s.slot n).tag ∧ t.pool = s.pool ∧ t.pos = s.pos ∧ t.capture = s.capture ∧
      t.stream = s.stream ∧ t.pending = s.pending

/-! ## The write channel -/

/-- GAP_TIMER_EXPIRY and BLOCK_OPEN_ON_CLASSIFY (R97, R99, R100): in GAP, with the transport RUNNING
forward and WPERMIT present, the block of a DATA slot opens in BLOCK with the write gate on, and its
frames are those of R3 for the slot's tag, flags, length and bytes. A MARK unit takes the next tag
then. Outside GAP the timer has only run out; a stopped one does nothing (log entry 3). -/
def Obligations.BlockOpensAfterTheGap : Prop :=
  (∀ (s : State) (u : WUnit) (n : SlotNo) (x g : Byte), s.wch.phase = .gap → s.wch.unit = some u →
    s.xp.motion = .running → s.xp.dir = .forward → s.xp.levels.wpermit = true →
    u.target = .slot n → u.kind = .data → u.tag = some x →
    (s.wch.gapTimer = .running g →
      ∃ t, exec .gapTimerExpiry s = .next t ∧ t.wch.phase = .block ∧ t.wch.wgate = true ∧
        t.wch.egate = s.wch.egate ∧ t.wch.unit = some u ∧
        t.wch.verify.map (·.frames) = some (blockFrames
          { kind := .data, stream := (s.slot n).source == some .stream
            discontinuity := (s.slot n).discontinuity
            rewritten := (s.slot n).rewritten || u.reattempt, tag := x
            length := (s.slot n).length } (s.pool.bytes n)) ∧
        t.pool = s.pool.put n { s.slot n with rewritten := (s.slot n).rewritten || u.reattempt } ∧
        t.host = s.host ∧ t.seq = s.seq ∧ t.xp = s.xp ∧ t.pos = s.pos ∧ t.rch = s.rch) ∧
    (s.wch.gapTimer = .ranOut → s.wch.verify = none →
      ∃ t, exec .blockOpenOnClassify s = .next t ∧ t.wch.phase = .block ∧ t.wch.wgate = true ∧
        t.wch.egate = s.wch.egate ∧ t.wch.unit = some u ∧ t.host = s.host ∧ t.seq = s.seq ∧
        t.xp = s.xp ∧ t.pos = s.pos ∧ t.rch = s.rch)) ∧
  (∀ (s : State) (u : WUnit) (g : Byte), s.wch.phase = .gap → s.wch.unit = some u →
    s.wch.gapTimer = .running g → s.xp.motion = .running → s.xp.dir = .forward →
    s.xp.levels.wpermit = true → u.target = .markUnit → u.kind = .mark → u.tag = none →
    ∃ t, exec .gapTimerExpiry s = .next t ∧ t.wch.phase = .block ∧ t.wch.wgate = true ∧
      t.pool = { s.pool with tag := s.pool.tag + 1 } ∧
      t.wch.verify.map (·.frames) = some (blockFrames
        { kind := .mark, stream := false, discontinuity := false, rewritten := u.reattempt
          tag := s.pool.tag, length := 0 } [])) ∧
  (∀ (s : State) (g : Byte), s.wch.phase ≠ .gap → s.wch.gapTimer = .running g →
    exec .gapTimerExpiry s = .next { s with wch := { s.wch with gapTimer := .ranOut } }) ∧
  ∀ s : State, s.wch.gapTimer = .stopped → exec .gapTimerExpiry s = .next s ∧
    exec .blockOpenOnClassify s = .next s

/-- CHECK_GROUP_WRITTEN (R27, R48, R101, R102, R139, R140, R144): a written DATA block is counted
and truncates the file map; a written mark truncates the map, inserts the file it ends, and begins
the next file. A unit without VERIFY is done in that event, its slot FREE, while the channel writes
the postamble: the last of a list's last entry ends the list COMPLETED, the stop deferred; otherwise
the next slot is taken and its unit waits at the channel. POSTAMBLE_WRITTEN (R98, R102, R157): the
write gate turns off, the channel enters AFTER, the run indication is set while the erase gate is
on, and the gap timer and the verify deadline start. Without VERIFY the channel returns to IDLE with
both gates off, or takes up the unit that waits, whose gap goes on under the erase gate. A deferred
STOP is then taken, and the tape stops by its ramp. Outside BLOCK the manual has neither command;
that they change nothing is the model's reading (log entry 3). -/
def Obligations.BlockEndsOnTheTape : Prop :=
  (∀ (s : State) (u : WUnit) f b, s.wch.phase = .block → s.wch.checkWritten = false →
    s.wch.unit = some u → u.verify = true → u.kind = .data → s.pos.zone ≠ .unknown →
    s.pos.file = some f → s.pos.block = some b →
    exec .checkGroupWritten s = .next { s with
      wch := { s.wch with
        checkWritten := true
        verify := s.wch.verify.map (fun v => { v with written := v.frames.length - 6 }) }
      pos := { s.pos with
        block := if b < 65535 then some (b + 1) else none
        map := s.pos.map.filter (fun e => e.1 < f) } }) ∧
  (∀ (s : State) (u : WUnit) f b, s.wch.phase = .block → s.wch.checkWritten = false →
    s.wch.unit = some u → u.verify = true → u.kind = .mark → s.pos.zone ≠ .unknown →
    s.pos.file = some f → f < 65535 → s.pos.block = some b →
    exec .checkGroupWritten s = .next { s with
      wch := { s.wch with
        checkWritten := true
        verify := s.wch.verify.map (fun v => { v with written := v.frames.length - 6 }) }
      pos := { s.pos with
        file := some (f + 1), block := some 0
        map := mapInsert (s.pos.map.filter (fun e => e.1 < f)) f b } }) ∧
  (∀ (s : State) (u : WUnit) (n : SlotNo) f b (p : Position) (w : WriteChannel),
    s.wch.phase = .block → s.wch.checkWritten = false → s.wch.unit = some u → u.verify = false →
    u.kind = .data → u.target = .slot n → s.pos.zone ≠ .unknown → s.pos.file = some f →
    s.pos.block = some b →
    p = { s.pos with
      block := if b < 65535 then some (b + 1) else none
      map := s.pos.map.filter (fun e => e.1 < f) } →
    w = { s.wch with
      checkWritten := true
      verify := s.wch.verify.map (fun v => { v with written := v.frames.length - 6 }) } →
    s.seq.state = .running → s.seq.work = .writeSlot n → (s.slot n).state = .active →
    0 < s.pool.freeCount → s.stream.state ≠ .starved → s.xp.motion = .running →
    s.xp.dir = .forward → s.xp.deferred = [] →
    (s.lastEntry → s.entry.count.toNat = s.seq.record.unitsDone + 1 → s.host.results.length < 16 →
      ∃ t r, exec .checkGroupWritten s = .next t ∧ s.listEndedWith t r .done .completed ∧
        r.record = { s.seq.record with unitsDone := s.seq.record.unitsDone + 1 } ∧
        t.pool = s.pool.put n SlotRecord.free ∧ t.pos = p ∧ t.wch = w ∧ t.xp.motion = .running ∧
        t.xp.deferred = [.stop] ∧ t.stream = s.stream ∧ t.capture = s.capture) ∧
    ∀ (m : SlotNo) q, s.unitFollows → s.pool.writeQ = m :: q → m ≠ n → s.entry.opcode = 0x01 →
      s.xp.levels.wpermit = true → s.xp.levels.eom = false →
      ∃ t v, exec .checkGroupWritten s = .next t ∧ t.seq = s.seq.unitDone (.writeSlot m) ∧
        t.pool = { (s.pool.put n SlotRecord.free).put m
            { s.slot m with state := .active, rewritten := false } with writeQ := q } ∧
        t.wch = { w with held := some (.write v) } ∧ v.target = .slot m ∧
        v.tag = (s.slot m).tag ∧ v.reattempt = false ∧ v.verify = s.entry.verify ∧
        t.xp.motion = .running ∧ t.xp.deferred = [] ∧ t.pos = p ∧ t.host = s.host ∧
        t.stream = s.stream ∧ t.capture = s.capture ∧ t.pending = s.pending) ∧
  (∀ (s : State) (u : WUnit), s.wch.phase = .block → s.wch.checkWritten = true →
    s.wch.unit = some u → u.verify = false → s.xp.deferred = [.stop] → s.xp.motion = .running →
    s.seq.state = .idle → s.wch.held = none →
    ∃ t, exec .postambleWritten s = .next t ∧ t.wch = .reset ∧ t.xp.motion = .stopping ∧
      t.xp.dir = s.xp.dir ∧ t.xp.rampTimer = some s.xp.timing.stopRamp ∧ t.xp.deferred = [] ∧
      t.xp.held = none ∧ t.seq = s.seq ∧ t.pool = s.pool ∧ t.pos = s.pos ∧ t.host = s.host ∧
      t.rch = s.rch ∧ t.stream = s.stream ∧ t.capture = s.capture ∧ t.pending = s.pending) ∧
  (∀ (s : State) (u : WUnit), s.wch.phase = .block → s.wch.checkWritten = true →
    s.wch.unit = some u → u.verify = true → s.xp.deferred = [] →
    exec .postambleWritten s = .next { s with wch := { s.wch with
      phase := .after, wgate := false, checkWritten := false, run := s.wch.egate
      gapTimer := .running s.xp.timing.writeGap
      deadline := some (s.xp.timing.verifyLag, s.xp.timing.readSilence)
      verify := s.wch.verify.map (fun v => { v with written := v.frames.length }) } }) ∧
  (∀ (s : State) (u : WUnit), s.wch.phase = .block → s.wch.checkWritten = true →
    s.wch.unit = some u → u.verify = false → s.xp.deferred = [] →
    (s.wch.held = none → exec .postambleWritten s = .next { s with wch := .reset }) ∧
    (∀ w, s.wch.held = some (.write w) → s.xp.motion = .running → s.xp.dir = .forward →
      ∃ t, exec .postambleWritten s = .next t ∧ t.wch.phase = .gap ∧ t.wch.unit = some w ∧
        t.wch.held = none ∧ t.wch.wgate = false ∧ t.wch.egate = s.wch.egate ∧
        t.wch.gapTimer = .running s.xp.timing.writeGap ∧ t = { s with wch := t.wch })) ∧
  (∀ (s : State) (u : WUnit), s.wch.phase = .block → s.wch.checkWritten = true →
    s.wch.unit = some u → u.verify = true → s.xp.deferred = [.stop] → s.xp.motion = .running →
    s.seq.work = .none →
    ∃ t, exec .postambleWritten s = .next t ∧ t.wch.phase = .after ∧ t.wch.wgate = false ∧
      t.wch.egate = false ∧ t.wch.run = false ∧ t.xp.motion = .stopping ∧ t.xp.dir = s.xp.dir ∧
      t.xp.rampTimer = some s.xp.timing.stopRamp ∧ t.xp.deferred = [] ∧ t.xp.held = none ∧
      t.seq = s.seq ∧ t.pool = s.pool ∧ t.pos = s.pos ∧ t.host = s.host ∧ t.rch = s.rch ∧
      t.stream = s.stream ∧ t.capture = s.capture ∧ t.pending = s.pending) ∧
  ∀ s : State, s.wch.phase ≠ .block →
    exec .checkGroupWritten s = .next s ∧ exec .postambleWritten s = .next s

/-- VERIFY_WATCH_OPEN (R103), and VERIFY_DEADLINE for a block that was never sensed (R63, R89, R90,
R103 to R107): the slot takes class FAILED and the capture record shows frame 0 with silent rows.
Where the entry has NO_RECOVERY and FREEZE_ON_FAILURE is on, an episode opens and the sequencer
enters FROZEN; the gates turn off and the running tape stops by its ramp. Otherwise the recovery
list begins at V0 (R79): a RETRY spends one of the budget and writes the slot again after a gap that
goes on under the erase gate (R84, R85), and that REWRITTEN stays as it was in that gap is the
model's reading (log entry 41); an ERASE begins at once (R82); a SPACE_REV waits for the tape to
stop (R81); a SKIP holds the slot and counts the unit as done and skipped, which here ends the list
(R88). That VERIFY_WATCH_OPEN without its timer, and VERIFY_DEADLINE without a deadline, change
nothing is the model's reading (log entry 3). -/
def Obligations.UnsensedBlockFails : Prop :=
  (∀ (s : State) (x : Byte) (v : Verify), s.wch.watchTimer = some x → s.wch.verify = some v →
    v.watch = .unopened →
    exec .verifyWatchOpen s = .next { s with wch := { s.wch with
      watchTimer := none, verify := some { v with watch := .waiting } } }) ∧
  (∀ s : State, s.wch.watchTimer = none → exec .verifyWatchOpen s = .next s) ∧
  (∀ s : State, s.wch.deadline = none → exec .verifyDeadline s = .next s) ∧
  (∀ (s : State) (u : WUnit) (v : Verify) (n : SlotNo) (d : Byte × Byte) (f : Row),
    s.wch.phase = .after → s.wch.deadline = some d → s.wch.unit = some u → u.target = .slot n →
    s.wch.verify = some v → v.watch = .waiting → v.compared = 0 → v.captureTaken = false →
    v.frames.head? = some f → s.seq.state = .running → s.entry.noRecovery = true →
    s.seq.ctl.freezeOnFailure = true → s.seq.work = .writeSlot n → s.xp.motion = .running →
    ∃ t, exec .verifyDeadline s = .next t ∧
      t.pool = s.pool.put n { s.slot n with wclass := some .failed } ∧
      t.capture = some
        { kind := .write, slot := some n, index := 0, expected := some f, strict := 0, lenient := 0
          cls := some .failed } ∧
      t.seq = { s.seq with
        state := .frozen, work := .none
        episode := some
          { kind := .write, slot := some n, tag := u.tag, budget := s.entry.budget.toNat
            attempts := 0, cur := none, last := .failed } } ∧
      t.host = s.host.flagged .frozenEntered ∧ t.wch = .reset ∧ t.xp.motion = .stopping ∧
      t.xp.dir = s.xp.dir ∧ t.pos = s.pos ∧ t.stream = s.stream ∧ t.pending = s.pending) ∧
  ∀ (s : State) (u : WUnit) (v : Verify) (n : SlotNo) (d : Byte × Byte) (f : Row) (e : Episode)
    (c : Capture), s.wch.phase = .after → s.wch.deadline = some d → s.wch.unit = some u →
    u.target = .slot n → s.wch.verify = some v → v.watch = .waiting → v.compared = 0 →
    v.captureTaken = false → v.frames.head? = some f → s.seq.state = .running →
    s.entry.noRecovery = false → 0 < s.seq.ctl.recLength → s.seq.work = .writeSlot n →
    (s.slot n).state = .active → s.xp.motion = .running → s.xp.dir = .forward →
    s.wch.run = true → s.xp.levels.wpermit = true → s.pos.zone ≠ .unknown →
    s.xp.levels.eom = false → s.xp.levels.bom = false →
    e = { kind := .write, slot := some n, tag := u.tag, budget := s.entry.budget.toNat
          attempts := 0, cur := some 0, last := .failed } →
    c = { kind := .write, slot := some n, index := 0, expected := some f, strict := 0, lenient := 0
          cls := some .failed } →
    (∀ g, s.seq.listMem.read 32 = 0x11 → 0 < s.entry.budget.toNat →
      s.wch.gapTimer = .running g →
      ∃ t w, exec .verifyDeadline s = .next t ∧ t.capture = some c ∧
        t.pool = s.pool.put n { s.slot n with wclass := some .failed } ∧
        t.seq = { s.seq with
          state := .recovery, recCount := 0
          record := { s.seq.record with retries := bump s.seq.record.retries }
          episode := some { e with budget := s.entry.budget.toNat - 1, attempts := 1 } } ∧
        t.wch.phase = .gap ∧ t.wch.unit = some w ∧ w.target = .slot n ∧ w.reattempt = true ∧
        w.tag = (s.slot n).tag ∧ t.wch.gapTimer = .running g ∧ t.wch.egate = s.wch.egate ∧
        t.xp.motion = .running ∧ t.xp.dir = .forward ∧ t.host = s.host ∧ t.pos = s.pos ∧
        t.stream = s.stream ∧ t.pending = s.pending) ∧
    (∀ k, s.seq.listMem.read 32 = 0x08 → s.pos.file = some k →
      ∃ t, exec .verifyDeadline s = .next t ∧ t.capture = some c ∧
        t.pool = s.pool.put n { s.slot n with wclass := some .failed } ∧
        t.seq = { s.seq with state := .recovery, work := .erase, recCount := 0, episode := some e } ∧
        t.wch.phase = .erasing ∧ t.wch.eraseTimer = some s.xp.timing.eraseLength ∧
        t.wch.egate = true ∧ t.xp.motion = .running ∧
        t.pos = { s.pos with map := s.pos.map.filter (fun x => x.1 < k) } ∧ t.host = s.host ∧
        t.stream = s.stream ∧ t.pending = s.pending) ∧
    (s.seq.listMem.read 32 = 0x05 →
      ∃ t, exec .verifyDeadline s = .next t ∧ t.capture = some c ∧
        t.pool = s.pool.put n { s.slot n with wclass := some .failed } ∧
        t.seq = { s.seq with
          state := .recovery, work := .space .reverse, recCount := 0, episode := some e } ∧
        t.wch = .reset ∧ t.xp.motion = .stopping ∧ t.xp.dir = .forward ∧
        t.xp.held = some (.dir .reverse) ∧ t.host = s.host ∧ t.pos = s.pos ∧
        t.stream = s.stream ∧ t.pending = s.pending) ∧
    (s.seq.listMem.read 32 = 0x12 → s.entry.count.toNat = s.seq.record.unitsDone + 1 →
      s.lastEntry → s.host.results.length < 16 →
      ∃ t r, exec .verifyDeadline s = .next t ∧ t.capture = some c ∧
        t.pool = s.pool.put n { s.slot n with state := .held, wclass := some .failed } ∧
        s.listEndedWith t r .done .completed ∧
        r.record = { s.seq.record with
          unitsDone := s.seq.record.unitsDone + 1, skipped := bump s.seq.record.skipped } ∧
        t.wch = .reset ∧ t.xp.motion = .stopping ∧ t.pos = s.pos ∧ t.stream = s.stream)

/-- The end of the read-back of a block that gave every frame GOOD (R27, R48, R53, R103 to R107):
the last silent row ends the watch, the class is CLEAN, the slot becomes FREE and the unit is done.
Where it is the last of a list's last entry, the entry ends DONE and the list COMPLETED, the channel
is IDLE with its gates off, and the tape is asked to stop. Otherwise units done rises by one and the
next unit begins in the same event (R26, R60, R107): the head of the write queue is taken, or the
next mark of a MARK entry follows (R49), and its gap goes on under the erase gate with the gap timer
as it stands, or, where that has run out, its block opens (R99). With the write queue empty the unit
waits, the channel is IDLE and the linger begins (R109, R158). The read-back of a re-attempt ends
the episode RECOVERED in the same way, with RECOVERED_SEEN set (R87). -/
def Obligations.CleanReadBackEndsTheUnit : Prop :=
  (∀ (x : Row) (s : State) (u : WUnit) (v : Verify) (n : SlotNo), s.wch.phase = .after →
    s.wch.unit = some u → s.wch.verify = some v → u.target = .slot n → v.watch = .sensing →
    v.weak = false → v.bad = false → v.captureTaken = false → 0 < v.silentRun →
    v.lastSilent = true → v.compared = v.frames.length + v.silentRun →
    v.silence.toNat ≤ v.silentRun + 1 → s.xp.motion = .running → s.seq.state = .running →
    s.seq.work = .writeSlot n → (s.slot n).state = .active → 0 < s.pool.freeCount →
    s.stream.state ≠ .starved → s.entry.count.toNat = s.seq.record.unitsDone + 1 →
    s.lastEntry → s.host.results.length < 16 →
    ∃ t r, exec (.readHeadRow x silentRow) s = .next t ∧ t.pool = s.pool.put n SlotRecord.free ∧
      t.host.results = s.host.results ++ [r] ∧ r.outcome = .done ∧
      r.record = { s.seq.record with unitsDone := s.seq.record.unitsDone + 1 } ∧
      t.seq.state = .idle ∧ t.seq.endCause = .completed ∧ t.wch = .reset ∧
      t.xp.motion = .stopping ∧ t.capture = s.capture ∧ t.pos = s.pos ∧ t.stream = s.stream ∧
      t.pending = s.pending) ∧
  (∀ (x : Row) (s : State) (u : WUnit), s.cleanRowDue u → s.seq.state = .running → s.unitFollows →
    s.xp.motion = .running → s.xp.dir = .forward → s.wch.run = true →
    s.xp.levels.wpermit = true → s.xp.levels.eom = false → s.pos.zone ≠ .unknown →
    (∀ (n m : SlotNo) q, u.target = .slot n → s.seq.work = .writeSlot n →
      (s.slot n).state = .active → 0 < s.pool.freeCount → s.stream.state ≠ .starved →
      s.entry.opcode = 0x01 → s.pool.writeQ = m :: q → m ≠ n →
      ∃ t w, exec (.readHeadRow x silentRow) s = .next t ∧
        t.seq = s.seq.unitDone (.writeSlot m) ∧
        t.pool = { (s.pool.put n SlotRecord.free).put m
            { s.slot m with state := .active, rewritten := false } with writeQ := q } ∧
        t.wch.unit = some w ∧ w.target = .slot m ∧ w.tag = (s.slot m).tag ∧
        w.reattempt = false ∧ w.verify = s.entry.verify ∧ t.wch.egate = s.wch.egate ∧
        t.wch.run = true ∧
        (∀ g, s.wch.gapTimer = .running g →
          t.wch.phase = .gap ∧ t.wch.wgate = false ∧ t.wch.gapTimer = .running g) ∧
        (s.wch.gapTimer = .ranOut → t.wch.phase = .block ∧ t.wch.wgate = true) ∧
        t.xp.motion = .running ∧ t.xp.dir = .forward ∧ t.host = s.host ∧ t.pos = s.pos ∧
        t.stream = s.stream ∧ t.capture = s.capture ∧ t.pending = s.pending) ∧
    (∀ g, u.target = .markUnit → s.seq.work = .writeMark → s.entry.opcode = 0x02 →
      s.wch.gapTimer = .running g →
      ∃ t w, exec (.readHeadRow x silentRow) s = .next t ∧ t.seq = s.seq.unitDone .writeMark ∧
        t.wch.phase = .gap ∧ t.wch.gapTimer = .running g ∧ t.wch.egate = s.wch.egate ∧
        t.wch.wgate = false ∧ t.wch.unit = some w ∧ w.target = .markUnit ∧ w.kind = .mark ∧
        w.tag = none ∧ w.reattempt = false ∧ t.xp.motion = .running ∧ t.pool = s.pool ∧
        t.host = s.host ∧ t.pos = s.pos ∧ t.stream = s.stream ∧ t.capture = s.capture ∧
        t.pending = s.pending) ∧
    ∀ n : SlotNo, u.target = .slot n → s.seq.work = .writeSlot n → (s.slot n).state = .active →
      0 < s.pool.freeCount → s.stream.state ≠ .starved → s.entry.opcode = 0x01 →
      s.pool.writeQ = [] → s.xp.lingerTimer = none → s.xp.timing.linger ≠ 0 →
      ∃ t, exec (.readHeadRow x silentRow) s = .next t ∧ t.seq = s.seq.unitDone .waitHead ∧
        t.pool = s.pool.put n SlotRecord.free ∧ t.wch = .reset ∧ t.xp.motion = .running ∧
        t.xp.lingerTimer = some s.xp.timing.linger ∧ t.host = s.host ∧ t.pos = s.pos ∧
        t.stream = s.stream ∧ t.capture = s.capture ∧ t.pending = s.pending) ∧
  ∀ (x : Row) (s : State) (u : WUnit) (v : Verify) (n : SlotNo) (e : Episode),
    s.wch.phase = .after → s.wch.unit = some u → s.wch.verify = some v → u.target = .slot n →
    v.watch = .sensing → v.weak = false → v.bad = false → v.captureTaken = false →
    0 < v.silentRun → v.lastSilent = true → v.compared = v.frames.length + v.silentRun →
    v.silence.toNat ≤ v.silentRun + 1 → s.xp.motion = .running → s.seq.state = .recovery →
    s.seq.work = .writeSlot n → s.seq.episode = some e → e.kind = .write → e.slot = some n →
    (s.slot n).state = .active → 0 < s.pool.freeCount → s.stream.state ≠ .starved →
    s.entry.count.toNat = s.seq.record.unitsDone + 1 → s.lastEntry → s.host.results.length < 16 →
    ∃ t r, exec (.readHeadRow x silentRow) s = .next t ∧ t.pool = s.pool.put n SlotRecord.free ∧
      s.listEndedWith t r .done .completed ∧
      r.record = { s.seq.record with
        unitsDone := s.seq.record.unitsDone + 1, recoveredSeen := true } ∧
      t.wch = .reset ∧ t.xp.motion = .stopping ∧ t.capture = s.capture ∧ t.pos = s.pos ∧
      t.stream = s.stream

/-- GAP_BEGIN_ON_RUNNING and ERASING_BEGIN_ON_RUNNING (R98, R111, R144): work held in IDLE begins
once the transport is RUNNING forward with WPERMIT present: the erase gate turns on with its timer,
and an ERASE truncates the file map, then and not as it began to wait (the model's reading, log entry
48); with nothing held, nothing changes (the model's reading, log entry 3). ERASE_TIMER_EXPIRY (R53, R111): the ERASE unit is done. Where it is the last of a list's
last entry, the entry ends DONE, the list COMPLETED, and the erase gate turns off with the channel
IDLE; the tape is asked to stop. Otherwise the next ERASE unit begins in the same event: the erase
goes on with its timer from the full length, and the map is truncated (R60, R111, R144). Outside
ERASING nothing changes (the model's reading, log entry 3). -/
def Obligations.HeldWorkAndErasing : Prop :=
  (∀ (s : State) (u : WUnit), s.wch.held = some (.write u) → s.wch.phase = .idle →
    s.xp.motion = .running → s.xp.dir = .forward → s.xp.levels.wpermit = true →
    s.rch.phase = .silent →
    exec .gapBeginOnRunning s = .next { s with wch := { WriteChannel.reset with
      phase := .gap, unit := some u, gapTimer := .running s.xp.timing.writeGap
      egate := true } }) ∧
  (∀ (s : State) f, s.wch.held = some .erase → s.wch.phase = .idle →
    s.xp.motion = .running → s.xp.dir = .forward → s.xp.levels.wpermit = true →
    s.rch.phase = .silent → s.pos.zone ≠ .unknown → s.pos.file = some f →
    ∃ t, exec .erasingBeginOnRunning s = .next t ∧ t.wch.phase = .erasing ∧
      t.wch.egate = true ∧ t.wch.wgate = false ∧ t.wch.held = none ∧
      t.wch.eraseTimer = some s.xp.timing.eraseLength ∧
      t = { s with
        wch := t.wch
        pos := { s.pos with map := s.pos.map.filter (fun e => e.1 < f) } }) ∧
  (∀ s : State, s.wch.held = none →
    exec .gapBeginOnRunning s = .next s ∧ exec .erasingBeginOnRunning s = .next s) ∧
  (∀ (s : State) (x : Byte), s.wch.phase = .erasing → s.wch.eraseTimer = some x →
    s.seq.state = .running → s.seq.work = .erase →
    s.entry.count.toNat = s.seq.record.unitsDone + 1 → s.lastEntry → s.host.results.length < 16 →
    s.xp.motion = .running →
    ∃ t r, exec .eraseTimerExpiry s = .next t ∧ t.wch = .reset ∧
      t.host.results = s.host.results ++ [r] ∧ r.outcome = .done ∧
      r.record = { s.seq.record with unitsDone := s.seq.record.unitsDone + 1 } ∧
      t.seq.state = .idle ∧ t.seq.endCause = .completed ∧ t.event .listEnded = true ∧
      t.xp.motion = .stopping ∧ t.pool = s.pool ∧ t.pos = s.pos ∧ t.stream = s.stream ∧
      t.capture = s.capture ∧ t.pending = s.pending) ∧
  (∀ (s : State) (x : Byte) f, s.wch.phase = .erasing → s.wch.eraseTimer = some x →
    s.seq.state = .running → s.seq.work = .erase → s.unitFollows → s.entry.opcode = 0x08 →
    s.xp.motion = .running → s.xp.dir = .forward → s.xp.levels.wpermit = true →
    s.xp.levels.eom = false → s.pos.zone ≠ .unknown → s.pos.file = some f →
    ∃ t, exec .eraseTimerExpiry s = .next t ∧ t.seq = s.seq.unitDone .erase ∧
      t.wch.phase = .erasing ∧ t.wch.eraseTimer = some s.xp.timing.eraseLength ∧
      t.wch.egate = true ∧ t.wch.wgate = false ∧ t.xp.motion = .running ∧ t.xp.dir = .forward ∧
      t.pos = { s.pos with map := s.pos.map.filter (fun e => e.1 < f) } ∧ t.pool = s.pool ∧
      t.host = s.host ∧ t.stream = s.stream ∧ t.capture = s.capture ∧ t.pending = s.pending) ∧
  ∀ s : State, s.wch.phase ≠ .erasing → exec .eraseTimerExpiry s = .next s

/-! ## The read head -/

/-- READ_HEAD_ROW (R12, R13, R116, R117): a row is not looked at while the tape is not at running
speed. With the write channel IDLE, silence leaves a SILENT channel as it is, the first active row
begins a burst, and the sixth of its rows shows its pattern: a recognised pattern is the body's
candidate, any other burst is passed over. That a burst may be stored where a unit holds its slot as it
begins, in a ramp too, is the model's reading (log entries 14 and 47). -/
def Obligations.ReadHeadRowsMakeBursts : Prop :=
  (∀ x y (s : State), s.xp.motion ∉ [.starting, .running, .stopping] →
    exec (.readHeadRow x y) s = .next s) ∧
  (∀ x (s : State), s.wch.phase = .idle → s.rch.phase = .silent →
    exec (.readHeadRow x 0) s = .next s) ∧
  (∀ x y (s : State), s.xp.motion ∈ [.starting, .running] → s.wch.phase = .idle →
    s.rch.phase = .silent → y ≠ 0 →
    exec (.readHeadRow x y) s = .next { s with rch := { s.rch.quiet with
      phase := .pattern, patRows := [y], silence := s.xp.timing.readSilence
      eligible := s.readTarget.isSome } }) ∧
  (∀ x y (s : State), s.xp.motion ∈ [.starting, .running] → s.wch.phase = .idle →
    s.rch.phase = .pattern → y ≠ 0 → s.rch.silentRows = [] → s.rch.patRows.length = 5 →
    recognise (s.rch.patRows ++ [y]) = none →
    exec (.readHeadRow x y) s = .next { s with rch := { s.rch with
      phase := .passing, patRows := s.rch.patRows ++ [y] } }) ∧
  ∀ x y (s : State) k, s.xp.motion ∈ [.starting, .running] → s.wch.phase = .idle →
    s.rch.phase = .pattern → y ≠ 0 → s.rch.silentRows = [] → s.rch.patRows.length = 5 →
    recognise (s.rch.patRows ++ [y]) = some k → s.readTarget = none →
    exec (.readHeadRow x y) s = .next { s with rch := { s.rch with
      phase := .body, cand := some k, patRows := s.rch.patRows ++ [y] } }

/-- A row (R1): bit n of the byte on track n, and on track 8 the row check bit, 1 where the byte has
an even number of ones, so that the number of ones of the row is odd; a row passes where that number
is odd. So every row of a byte has a track at 1 and passes, nine zeros fail, and any one wrong bit
is found. -/
def Obligations.RowsHaveOddOnes : Prop :=
  (∀ b : Byte, (∀ n, n < 8 → (rowOf b).getLsbD n = b.getLsbD n) ∧
    ((rowOf b).getLsbD 8 = true ↔ (List.range 8).countP (fun n => b.getLsbD n) % 2 = 0) ∧
    (List.range 9).countP (fun n => (rowOf b).getLsbD n) % 2 = 1 ∧ rowOf b ≠ silentRow ∧
    ∀ n, n < 9 → rowPasses (rowOf b ^^^ BitVec.ofNat 9 (2 ^ n)) = false) ∧
  (∀ r : Row, rowPasses r = true ↔ (List.range 9).countP (fun n => r.getLsbD n) % 2 = 1) ∧
  rowPasses silentRow = false

/-- Six rows are never recognised as both patterns: five agree with the frames of one pattern only
(R4, R13). -/
def Obligations.PatternsAreNeverConfused : Prop :=
  ∀ rows : List Row, rows.length = 6 →
    ¬ (5 ≤ agreeing rows dataPattern ∧ 5 ≤ agreeing rows markPattern) ∧
    (5 ≤ agreeing rows dataPattern → recognise rows = some .data) ∧
    (5 ≤ agreeing rows markPattern → recognise rows = some .mark)

/-- A block as the formatter writes it is read back whole (R3, R5 to R8, R13, R17, R117, R120 to
R123, R130): the rows of its frames, taken by a forward channel in silence with the READ unit's slot
as target, and then the silence that ends the burst, give a CLEAN DATA block, whose slot holds the
block's bytes, its length and its tag, and the finding of the tag test against the tag memory as it
was. Where the strict rows fail the row check and the lenient rows do not, every body frame is a
fallback frame, the block is MARGINAL, and the first of them fills the capture record (R132). Where
the header's length is not that of the data, the block is DAMAGED with LENGTH_MISMATCH. -/
def Obligations.WrittenBlockReadsBackClean : Prop :=
  ∀ (s : State) (n : SlotNo) (h : Header) (bytes : List Byte), s.xp.dir = .forward →
    s.rch.phase = .silent → s.rch.straddle = none → s.seq.work = .read n →
    (s.slot n).state = .active → s.pool.data.wf = true → h.kind = .data →
    1 ≤ bytes.length → bytes.length ≤ 1024 →
    (h.length = bytes.length →
      ∃ t, ((blockFrames h bytes).foldl (fun s row => (s.takeRow row row).1) s).endBurst .silence =
          (t, some { kind := .data, dir := .forward, stored := some (n, .clean), givenBack := none }) ∧
        t.pool.bytes n = bytes ∧ (t.slot n).length = bytes.length ∧ (t.slot n).tag = some h.tag ∧
        (t.slot n).read.cls = some .clean ∧ t.rch.tagMem = some h.tag ∧ t.rch.phase = .silent ∧
        t.pos = Position.forwardReport false .data s.pos ∧ t.capture = s.capture ∧
        (s.rch.tagMem = none → (t.slot n).read.finding = .untested) ∧
        ∀ m, s.rch.tagMem = some m → (t.slot n).read.finding =
          if h.tag = m then .duplicate else if h.tag = m + 1 then .inSequence else .seqBreak) ∧
    (h.length = bytes.length → s.seq.state ≠ .frozen →
      ∃ t c, ((blockFrames h bytes).foldl (fun s row => (s.takeRow silentRow row).1) s).endBurst
            .silence =
          (t, some
            { kind := .data, dir := .forward, stored := some (n, .marginal), givenBack := none }) ∧
        t.pool.bytes n = bytes ∧ (t.slot n).tag = some h.tag ∧
        (t.slot n).read.cls = some .marginal ∧ (t.slot n).read.fallback = bytes.length + 7 ∧
        (t.slot n).read.errors = 0 ∧ t.capture = some c ∧ c.kind = .read ∧ c.slot = some n ∧
        c.index = 6 ∧ c.expected = none ∧ c.strict = 0 ∧ c.cls = some .marginal) ∧
    (h.length ≠ bytes.length → h.length ≤ 1024 →
      ∃ t, ((blockFrames h bytes).foldl (fun s row => (s.takeRow row row).1) s).endBurst .silence =
          (t, some
            { kind := .data, dir := .forward, stored := some (n, .damaged), givenBack := none }) ∧
        t.pool.bytes n = bytes ∧ (t.slot n).tag = some h.tag ∧
        (t.slot n).read.cls = some .damaged ∧ (t.slot n).read.lengthMismatch = true ∧
        (t.slot n).read.lrcFail = false ∧ (t.slot n).read.crcFail = false)

/-- BLANK_WINDOW_EXPIRY (R30, R50 to R52, R64, R128): a READ, SPACE_FWD or SEEK_FWD unit, the
transport RUNNING forward, ends its entry BLANK_MET, the READ unit's slot FREE. With HALT_ON_SHORT,
or after the last entry in SINGLE mode, the list ends COMPLETED, the tape stopping by its ramp, the
first also after a STOP, which is the model's reading (log entry 33); in every other case after a
STOP it ends STOPPED; otherwise the entry that follows begins with a fresh record, M0 in CYCLE mode
with one cycle more and the tag memory kept. With the blank timer stopped nothing changes (the
model's reading, log entry 3). -/
def Obligations.BlankWindowEndsTheEntry : Prop :=
  (∀ (s : State) (p : Pool), s.seq.state ∈ [.running, .stopping] →
    (∃ n, s.seq.work = .read n ∧ (s.slot n).state = .active ∧ s.stream.state ≠ .starved ∧
      p = s.pool.put n SlotRecord.free) ∨
      (s.seq.work ∈ [.space .forward, .seek .forward] ∧ p = s.pool) →
    s.xp.motion = .running → s.xp.dir = .forward → s.xp.blankTimer ≠ none →
    s.host.results.length < 16 → s.wch.phase = .idle →
    (∀ c, (c = .completed ∧ (s.entry.haltOnShort = true ∨
          (s.lastEntry ∧ s.seq.stopInd = false))) ∨
        (c = .stopped ∧ s.entry.haltOnShort = false ∧ s.seq.stopInd = true) →
      ∃ t r, exec .blankWindowExpiry s = .next t ∧ s.listEndedWith t r .blankMet c ∧
        r.record = s.seq.record ∧ r.index = s.seq.cur ∧ t.xp.motion = .stopping ∧ t.pool = p ∧
        t.pos = s.pos ∧ t.stream = s.stream ∧ t.capture = s.capture ∧
        (s.seq.work ∈ [.space .forward, .seek .forward] → t.rch = s.rch)) ∧
    ∀ w, s.entry.haltOnShort = false → s.seq.stopInd = false → s.passFollows w →
      s.xp.levels.eom = false →
      ∃ t r, exec .blankWindowExpiry s = .next t ∧ s.wentOnWith t r .blankMet w ∧
        r.record = s.seq.record ∧ t.xp.motion = .running ∧ t.xp.dir = .forward ∧ t.pool = p ∧
        t.pos = s.pos ∧ t.stream = s.stream ∧ t.capture = s.capture ∧
        t.rch.tagMem = s.rch.tagMem) ∧
  ∀ s : State, s.xp.blankTimer = none → exec .blankWindowExpiry s = .next s

/-! ## Position -/

/-- Reverse reports (R141, R142). A block report, outside UNKNOWN and AT_BOM, subtracts one from a
block above 0; a block of 0, and an absent one, is absent afterwards; the remainder of a block cut
by a stop and crossed back over is such a report. A mark report, outside UNKNOWN and AT_BOM: from
file 0 the position is lost; from any other the file is one less and the block is what the map holds
for it, or absent. The map is unchanged, and in AT_BOM neither is applied. An absent block is known
again at BOM and after a forward mark. -/
def Obligations.ReverseReports : Prop :=
  (∀ p : Position, p.zone ≠ .unknown → p.zone ≠ .atBom → ∀ b, p.block = some (b + 1) →
    Position.reverseReport .data p = { p with block := some b }) ∧
  (∀ p : Position, p.zone ≠ .unknown → p.zone ≠ .atBom → p.block = some 0 ∨ p.block = none →
    Position.reverseReport .data p = { p with block := none }) ∧
  (∀ p : Position, p.zone = .atBom → Position.reverseReport .data p = p) ∧
  (∀ s : State, s.xp.dir = .reverse → s.rch.straddle = some (.data, .forward) →
    (s.endBurst .silence).1.pos = Position.reverseReport .data s.pos) ∧
  (∀ p : Position, p.zone ≠ .unknown → p.zone ≠ .atBom → p.file = some 0 →
    Position.reverseReport .mark p = { p with zone := .unknown, file := none, block := none }) ∧
  (∀ (p : Position) f, p.zone ≠ .unknown → p.zone ≠ .atBom → p.file = some (f + 1) →
    mapWf p.map = true →
    ∃ b, Position.reverseReport .mark p = { p with file := some f, block := b } ∧
      ∀ n, b = some n ↔ (f, n) ∈ p.map) ∧
  (∀ p : Position, p.zone = .atBom → Position.reverseReport .mark p = p) ∧
  ∀ p : Position, p.block = none →
    (∀ k, (Nat.repeat (Position.reverseReport .data) k p).block = none) ∧
    p.bomReached.block = some 0 ∧
    ∀ f, p.zone ≠ .unknown → p.file = some f → f < 65535 →
      (p.forwardReport false .mark).block = some 0

/-- An insertion into the file map, by the four cases of R143: afterwards the map is in file order
with at most 16 entries, it holds the inserted entry unless it was full of higher files, and it
holds every entry it held but the one replaced or, from a full map, the lowest. -/
def Obligations.FileMapInsertion : Prop :=
  ∀ (m : List (Nat × Nat)) f n, mapWf m = true →
    mapWf (mapInsert m f n) = true ∧
    ((∃ c, (f, c) ∈ m) → (f, n) ∈ mapInsert m f n ∧ (mapInsert m f n).length = m.length ∧
      ∀ e, e.1 ≠ f → (e ∈ mapInsert m f n ↔ e ∈ m)) ∧
    ((∀ e ∈ m, e.1 ≠ f) → m.length < 16 →
      ∀ e, e ∈ mapInsert m f n ↔ e = (f, n) ∨ e ∈ m) ∧
    (∀ g c q, m = (g, c) :: q → (∀ e ∈ m, e.1 ≠ f) → m.length = 16 → g < f →
      ∀ e, e ∈ mapInsert m f n ↔ e = (f, n) ∨ e ∈ q) ∧
    ((∀ e ∈ m, f < e.1) → m.length = 16 → mapInsert m f n = m)

/-- BOM_FALL, EW_FALL, EOM_FALL and EW_RISE (R112, R137, R138): each samples its level; with the
zone known and the tape moving in the edge's direction the zone becomes the table's, and otherwise
the position stays. EW rising forward during a WRITE, MARK or ERASE entry, in a unit, a wait or an
episode, raises EW and sets EW_PASSED; that an entry runs in RUNNING, STOPPING, RECOVERY and FROZEN
and in no other state is the model's reading (log entry 15), and so is that a WRITE unit with
STOP_AT_EW which waits for the head of the write queue goes on waiting (log entry 34). With no such
entry it sets the zone alone. -/
def Obligations.MarkerEdgesSetTheZone : Prop :=
  (∀ s : State, s.xp.levels.bom = true → exec .bomFall s = .next { s with
    xp := { s.xp with levels := { s.xp.levels with bom := false } }
    pos := if s.pos.zone ≠ .unknown ∧ s.xp.dir = .forward ∧
        s.xp.motion ∈ [.starting, .running, .stopping]
      then { s.pos with zone := .inData } else s.pos }) ∧
  (∀ s : State, s.xp.levels.ew = true → exec .ewFall s = .next { s with
    xp := { s.xp with levels := { s.xp.levels with ew := false } }
    pos := if s.pos.zone ≠ .unknown ∧ ((s.xp.dir = .reverse ∧
        s.xp.motion ∈ [.starting, .running, .stopping]) ∨ s.xp.motion ∈ [.rewinding, .unloading])
      then { s.pos with zone := .inData } else s.pos }) ∧
  (∀ s : State, s.xp.levels.eom = true → exec .eomFall s = .next { s with
    xp := { s.xp with levels := { s.xp.levels with eom := false } }
    pos := if s.pos.zone ≠ .unknown ∧ ((s.xp.dir = .reverse ∧
        s.xp.motion ∈ [.starting, .running, .stopping]) ∨ s.xp.motion ∈ [.rewinding, .unloading])
      then { s.pos with zone := .pastEw } else s.pos }) ∧
  (∀ s : State, s.xp.levels.ew = false → s.xp.dir = .forward →
    s.xp.motion ∈ [.starting, .running, .stopping] →
    s.seq.state ∈ [.running, .stopping, .recovery, .frozen] →
    s.entry.opcode ∈ ([0x01, 0x02, 0x08] : List Byte) →
    exec .ewRise s = .next { s with
      xp := { s.xp with levels := { s.xp.levels with ew := true } }
      pos := if s.pos.zone ≠ .unknown then { s.pos with zone := .pastEw } else s.pos
      host := s.host.flagged .ew
      seq := { s.seq with record := { s.seq.record with ewPassed := true } } }) ∧
  (∀ s : State, s.xp.levels.ew = false → s.xp.dir = .forward →
    s.xp.motion ∈ [.starting, .running, .stopping] →
    s.seq.state ∈ [.idle, .postWait, .aborting] ∨
      s.entry.opcode ∉ ([0x01, 0x02, 0x08] : List Byte) →
    exec .ewRise s = .next { s with
      xp := { s.xp with levels := { s.xp.levels with ew := true } }
      pos := if s.pos.zone ≠ .unknown then { s.pos with zone := .pastEw } else s.pos }) ∧
  ∀ s : State, s.xp.levels.ew = false →
    s.xp.dir = .reverse ∨ s.xp.motion ∉ [.starting, .running, .stopping] →
    exec .ewRise s = .next { s with xp := { s.xp with levels := { s.xp.levels with ew := true } } }

/-- BOM_RISE (R51, R52, R64, R71, R136, R159 to R161): in REWINDING it is BOM reached and the rewind
stops by its ramp with FAST kept; a REWIND entry ends DONE, and after the last entry in SINGLE mode
the list COMPLETED, also after a STOP (R71); an unload goes on with its entry. In reverse motion it
is BOM reached and the tape stops by its ramp; a SPACE_REV or SEEK_REV entry ends BOM_MET, which
with HALT_ON_SHORT, or after the last entry in SINGLE mode, ends the list COMPLETED, the first also
after a STOP, which is the model's reading (log entry 33); in every other case after a STOP, a
REWIND entry's included, the list ends STOPPED. Where an entry follows it begins with a fresh
record, and its first request is held until the tape is at rest (R153). With no unit and no recovery
step running nothing else changes. In UNLOADING it is BOM reached while the zone is known, which is
the model's reading (log entry 21). At rest, and in forward motion, it changes only the level. -/
def Obligations.BomRiseIsBomReached : Prop :=
  (∀ (s : State) (o : EntryOutcome), s.xp.levels.bom = false →
    (s.xp.motion = .rewinding ∧ s.seq.work = .rewind ∧ s.xp.unloadInd = false ∧ o = .done) ∨
      (s.xp.motion ∈ [.starting, .running, .stopping] ∧ s.xp.dir = .reverse ∧
        s.seq.work ∈ [.space .reverse, .seek .reverse] ∧ o = .bomMet) →
    s.seq.state ∈ [.running, .stopping] → s.host.results.length < 16 →
    (∀ c, (c = .completed ∧ ((o = .done ∧ s.lastEntry) ∨ (o = .bomMet ∧
          (s.entry.haltOnShort = true ∨ (s.lastEntry ∧ s.seq.stopInd = false))))) ∨
        (c = .stopped ∧ s.seq.stopInd = true ∧ ((o = .done ∧ s.entryFollows) ∨
          (o = .bomMet ∧ s.entry.haltOnShort = false))) →
      ∃ t r, exec .bomRise s = .next t ∧ s.listEndedWith t r o c ∧
        r.record = s.seq.record ∧ r.index = s.seq.cur ∧ r.file = some 0 ∧ r.block = some 0 ∧
        t.pos = { s.pos with zone := .atBom, file := some 0, block := some 0 } ∧
        t.xp.motion = .stopping ∧ t.xp.dir = s.xp.dir ∧
        (o = .done → t.xp.fast = true) ∧ t.xp.levels = { s.xp.levels with bom := true } ∧
        t.pool = s.pool ∧ t.stream = s.stream ∧ t.capture = s.capture) ∧
    ∀ w, (o = .done ∨ s.entry.haltOnShort = false) → s.seq.stopInd = false → s.passFollows w →
      s.xp.levels.eom = false →
      ∃ t r, exec .bomRise s = .next t ∧ s.wentOnWith t r o w ∧ r.record = s.seq.record ∧
        r.file = some 0 ∧ r.block = some 0 ∧
        t.pos = { s.pos with zone := .atBom, file := some 0, block := some 0 } ∧
        t.xp.motion = .stopping ∧ t.xp.held = some (.dir .forward) ∧ t.pool = s.pool ∧
        t.stream = s.stream ∧ t.capture = s.capture) ∧
  (∀ s : State, s.xp.levels.bom = false →
    (s.xp.motion = .rewinding ∧ s.xp.unloadInd = true) ∨
      (s.xp.motion ∈ [.starting, .running, .stopping] ∧ s.xp.dir = .reverse ∧
        (s.seq.state ∉ [.running, .stopping, .recovery] ∨
          s.seq.work ∉ [.space .reverse, .seek .reverse])) →
    ∃ t, exec .bomRise s = .next t ∧
      t.pos = { s.pos with zone := .atBom, file := some 0, block := some 0 } ∧
      t.xp.motion = .stopping ∧ t.xp.dir = s.xp.dir ∧
      (s.xp.motion = .rewinding → t.xp.fast = true ∧ t.xp.rewindTimer = none) ∧
      (s.xp.motion ≠ .stopping → t.xp.rampTimer = some s.xp.timing.stopRamp) ∧
      (s.xp.motion = .stopping → t.xp.rampTimer = s.xp.rampTimer) ∧
      t.xp.unloadInd = s.xp.unloadInd ∧ t.xp.held = s.xp.held ∧
      t.xp.levels = { s.xp.levels with bom := true } ∧ t.seq = s.seq ∧ t.host = s.host ∧
      t.pool = s.pool ∧ t.stream = s.stream ∧ t.capture = s.capture ∧ t.pending = s.pending) ∧
  (∀ s : State, s.xp.levels.bom = false → s.xp.motion = .unloading →
    exec .bomRise s = .next { s with
      xp := { s.xp with levels := { s.xp.levels with bom := true } }
      pos := if s.pos.zone = .unknown then s.pos
        else { s.pos with zone := .atBom, file := some 0, block := some 0 } }) ∧
  ∀ s : State, s.xp.levels.bom = false →
    s.xp.motion ∈ [.stopped, .fault, .notReady, .noCartridge] ∨
      (s.xp.motion ∈ [.starting, .running, .stopping] ∧ s.xp.dir = .forward) →
    exec .bomRise s = .next { s with xp := { s.xp with levels := { s.xp.levels with bom := true } } }

/-- EOM_RISE (R28, R30, R62, R73, R83, R113, R138, R159): in forward motion, in STARTING, RUNNING or
STOPPING, every line is released at once with the tape STOPPED, a held request goes, the gates turn
off with the channel IDLE, and the zone becomes AT_EOM where it is known. A running entry, in a
unit, a wait or an episode, ends EOM_MET and the list TERMINAL, the unit's slot given back or the
failed slot HELD or delivered. In IDLE, POST_WAIT and ABORTING no entry runs and no outcome comes of
it; ABORTING with no result pending then ends its list ABORTED, and that it does so in the same
event is the model's reading (log entry 5). That requests deferred until then are taken first, and
the zone set before the result is built, is the model's reading (log entries 9 and 32). Outside
forward motion it changes only the level. -/
def Obligations.EomRiseReleasesTheLines : Prop :=
  (∀ (s : State) (q : Position), s.xp.levels.eom = false →
    s.xp.motion ∈ [.starting, .running, .stopping] → s.xp.dir = .forward → s.rch.phase = .silent →
    s.xp.motion ∈ [.starting, .running] ∨ s.xp.deferred = [] →
    q = (if s.posSpent.zone = .unknown then s.posSpent else { s.posSpent with zone := .atEom }) →
    (∀ p, s.entryGivesBack p → s.host.results.length < 16 →
      ∃ t r, exec .eomRise s = .next t ∧ s.listEndedWith t r .eomMet .terminal ∧
        r.record = s.seq.record ∧ r.index = s.seq.cur ∧ r.cycle = s.seq.cycle ∧
        t.xp.motion = .stopped ∧ t.xp.levels = { s.xp.levels with eom := true } ∧
        t.xp.held = none ∧ t.xp.rampTimer = none ∧ t.xp.lingerTimer = none ∧
        t.xp.timing = s.xp.timing ∧ t.wch = .reset ∧ t.pos = q ∧ t.pool = p ∧
        t.stream = s.stream ∧ t.capture = s.capture) ∧
    (s.seq.state ∈ [.idle, .postWait, .aborting] →
      ∃ t, exec .eomRise s = .next t ∧ t.xp.motion = .stopped ∧
        t.xp.levels = { s.xp.levels with eom := true } ∧ t.xp.held = none ∧
        t.xp.rampTimer = none ∧ t.xp.lingerTimer = none ∧ t.xp.timing = s.xp.timing ∧
        t.wch = .reset ∧ t.pos = q ∧ t.pool = s.pool ∧ t.stream = s.stream ∧
        t.capture = s.capture ∧ t.pending = s.pending ∧
        t.host.results = s.host.results ∧
        (s.seq.state ≠ .aborting ∨ s.seq.pendingResult ≠ none → t.seq = s.seq ∧ t.host = s.host) ∧
        (s.seq.state = .aborting → s.seq.pendingResult = none →
          t.seq.state = .idle ∧ t.seq.endCause = .aborted ∧ t.event .listEnded = true))) ∧
  ∀ s : State, s.xp.levels.eom = false →
    s.xp.dir = .reverse ∨ s.xp.motion ∉ [.starting, .running, .stopping] →
    exec .eomRise s = .next { s with xp := { s.xp with levels := { s.xp.levels with eom := true } } }

/-! ## The drive -/

/-- PRESENT_FALL and PRESENT_RISE (R54, R62, R83, R145, R164): each edge raises CARTRIDGE_CHANGE.
Falling, the transport is in NO_CARTRIDGE with every line off, the position is lost and the map
emptied, the gates are off. A running entry ends NOT_READY and the list TERMINAL, the unit's slot
given back or the failed slot HELD or delivered; an UNLOAD entry ends DONE, and where it is the last
the list COMPLETED. That the result shows the position already lost is the model's reading (log
entry 32). Rising from NO_CARTRIDGE, the transport is STOPPED where READY is present, and NOT_READY
otherwise. An edge to the level already there changes nothing (log entry 3). -/
def Obligations.CartridgeEdges : Prop :=
  (∀ s : State, s.xp.levels.present = true → s.seq.state = .idle → s.rch.phase = .silent →
    ∃ t, exec .presentFall s = .next t ∧ t.xp.motion = .noCartridge ∧
      t.xp.levels = { s.xp.levels with present := false } ∧ t.xp.held = none ∧
      t.xp.unloadInd = false ∧ t.wch = .reset ∧
      t.pos = { zone := .unknown, file := none, block := none, map := [] } ∧
      t.rch.tagMem = none ∧ t.rch.straddle = none ∧ t.host = s.host.flagged .cartridgeChange ∧
      t.pool = s.pool ∧ t.seq = s.seq ∧ t.stream = s.stream ∧ t.capture = s.capture ∧
      t.xp.timing = s.xp.timing ∧ t.pending = s.pending) ∧
  (∀ (s : State) (p : Pool) (o : EntryOutcome) (c : EndCause), s.xp.levels.present = true →
    s.rch.phase = .silent → s.xp.deferred = [] → s.host.results.length < 16 → s.entryGivesBack p →
    (s.seq.work ≠ .unload ∧ o = .notReady ∧ c = .terminal) ∨
      (s.seq.state ∈ [.running, .stopping] ∧ s.seq.work = .unload ∧ s.lastEntry ∧ o = .done ∧
        c = .completed) →
    ∃ t r, exec .presentFall s = .next t ∧ s.listEndedWith t r o c ∧ r.record = s.seq.record ∧
      r.index = s.seq.cur ∧ r.file = none ∧ r.block = none ∧ t.event .cartridgeChange = true ∧
      t.xp.motion = .noCartridge ∧ t.xp.levels = { s.xp.levels with present := false } ∧
      t.xp.held = none ∧ t.xp.unloadInd = false ∧ t.wch = .reset ∧
      t.pos = { zone := .unknown, file := none, block := none, map := [] } ∧ t.pool = p ∧
      t.rch.tagMem = none ∧ t.stream = s.stream ∧ t.capture = s.capture) ∧
  (∀ s : State, s.xp.levels.present = false → s.xp.motion = .noCartridge →
    ∃ t, exec .presentRise s = .next t ∧
      t.xp.motion = (if s.xp.levels.ready then .stopped else .notReady) ∧
      t.xp.levels = { s.xp.levels with present := true } ∧
      t.host = s.host.flagged .cartridgeChange ∧ t.pos = s.pos ∧ t.pool = s.pool ∧
      t.seq = s.seq ∧ t.rch = s.rch ∧ t.stream = s.stream ∧ t.capture = s.capture ∧
      t.pending = s.pending) ∧
  (∀ s : State, s.xp.levels.present = false → exec .presentFall s = .next s) ∧
  ∀ s : State, s.xp.levels.present = true → exec .presentRise s = .next s

/-- READY_FALL, READY_RISE, WPERMIT_FALL and WPERMIT_RISE (R62, R83, R97, R114, R145, R163): READY
falling in motion gives FAULT with the position lost, and ends a running entry TRANSPORT_FAULT; in
STOPPED it gives NOT_READY, and the entry ends NOT_READY; the list ends TERMINAL, the unit's slot
given back or the failed slot HELD or delivered. That the result shows the position already lost is
the model's reading (log entry 32). In any other motion state READY falling loses the position and
changes nothing else. READY rising in NOT_READY with a cartridge gives STOPPED, and otherwise
changes only the level. WPERMIT falling turns both gates off at once, and with the channel IDLE or
in AFTER changes nothing more; in GAP, BLOCK or ERASING the channel returns to IDLE and the running
WRITE, MARK or ERASE entry ends WRITE_PROTECTED, the write slot back at the head of the write queue,
and the list TERMINAL. -/
def Obligations.ReadyAndPermitEdges : Prop :=
  (∀ s : State, s.xp.levels.ready = true → s.seq.state = .idle → s.rch.phase = .silent →
    s.xp.motion ∈ [.starting, .running, .stopping, .rewinding, .stopped] →
    ∃ t, exec .readyFall s = .next t ∧
      t.xp.motion = (if s.xp.motion = .stopped then .notReady else .fault) ∧
      t.xp.levels = { s.xp.levels with ready := false } ∧ t.xp.held = none ∧ t.wch = .reset ∧
      t.pos = { s.pos with zone := .unknown, file := none, block := none } ∧
      t.rch.tagMem = none ∧ t.pool = s.pool ∧ t.seq = s.seq ∧ t.host = s.host ∧
      t.stream = s.stream ∧ t.capture = s.capture ∧ t.pending = s.pending) ∧
  (∀ (s : State) (p : Pool), s.xp.levels.ready = true → s.rch.phase = .silent →
    s.xp.deferred = [] → s.host.results.length < 16 → s.entryGivesBack p →
    s.xp.motion ∈ [.starting, .running, .stopping, .rewinding, .stopped] →
    ∃ t r, exec .readyFall s = .next t ∧
      s.listEndedWith t r (if s.xp.motion = .stopped then .notReady else .transportFault)
        .terminal ∧
      r.record = s.seq.record ∧ r.index = s.seq.cur ∧ r.file = none ∧ r.block = none ∧
      t.xp.motion = (if s.xp.motion = .stopped then .notReady else .fault) ∧
      t.xp.levels = { s.xp.levels with ready := false } ∧ t.xp.held = none ∧
      t.xp.unloadInd = false ∧ t.wch = .reset ∧
      t.pos = { s.pos with zone := .unknown, file := none, block := none } ∧ t.pool = p ∧
      t.rch.tagMem = none ∧ t.stream = s.stream ∧ t.capture = s.capture) ∧
  (∀ s : State, s.xp.levels.ready = true →
    s.xp.motion ∈ [.unloading, .fault, .notReady, .noCartridge] →
    exec .readyFall s = .next { s with
      xp := { s.xp with levels := { s.xp.levels with ready := false } }
      pos := { s.pos with zone := .unknown, file := none, block := none } }) ∧
  (∀ s : State, s.xp.levels.ready = false →
    s.xp.motion ≠ .notReady ∨ s.xp.levels.present = false →
    exec .readyRise s = .next { s with
      xp := { s.xp with levels := { s.xp.levels with ready := true } } }) ∧
  (∀ s : State, s.xp.levels.ready = false → s.xp.motion = .notReady → s.xp.levels.present = true →
    ∃ t, exec .readyRise s = .next t ∧ t.xp.motion = .stopped ∧
      t.xp.levels = { s.xp.levels with ready := true } ∧ t.pos = s.pos ∧ t.pool = s.pool ∧
      t.seq = s.seq ∧ t.host = s.host ∧ t.rch = s.rch ∧ t.stream = s.stream ∧
      t.pending = s.pending) ∧
  (∀ s : State, s.xp.levels.wpermit = true → s.wch.phase = .idle ∨ s.wch.phase = .after →
    exec .wpermitFall s = .next { s with
      xp := { s.xp with levels := { s.xp.levels with wpermit := false } }
      wch := { s.wch with wgate := false, egate := false, run := false } }) ∧
  (∀ (s : State) (p : Pool), s.xp.levels.wpermit = true → s.wch.phase ∈ [.gap, .block, .erasing] →
    s.seq.state = .running → s.seq.episode = none → s.xp.deferred = [] → s.xp.motion = .running →
    s.host.results.length < 16 →
    (∃ n, s.seq.work = .writeSlot n ∧ (s.slot n).state = .active ∧
      p = { s.pool.put n { s.slot n with state := .queued } with
        writeQ := n :: s.pool.writeQ }) ∨
      (s.seq.work ∈ [.writeMark, .erase, .waitHead] ∧ p = s.pool) →
    ∃ t r, exec .wpermitFall s = .next t ∧ t.wch = .reset ∧ t.xp.levels.wpermit = false ∧
      s.listEndedWith t r .writeProtected .terminal ∧ r.record = s.seq.record ∧ t.pool = p ∧
      t.xp.motion = .stopping ∧ t.xp.dir = s.xp.dir ∧ t.pos = s.pos ∧ t.stream = s.stream ∧
      t.capture = s.capture) ∧
  ∀ s : State, s.xp.levels.wpermit = false → exec .wpermitRise s = .next { s with
    xp := { s.xp with levels := { s.xp.levels with wpermit := true } } }

/-- The transport's timers (R54, R62, R65, R90, R153 to R155, R158, R162): the start ramp ends in
RUNNING, in its direction, and a kept idle report then begins the linger; the stop ramp ends in
STOPPED, and with no eject phase to come a held request is then answered as HELD_REQUEST_ANSWERED
gives; with the list ended or FROZEN the tape stays at rest, and that a request still held is then
dropped is the model's reading (log entry 29); the linger ends in STOPPING; REWIND_LIMIT ends in
FAULT with the position lost, with no list running and in a running REWIND or UNLOAD entry, which
ends TRANSPORT_FAULT and its list TERMINAL. That its result shows the position already lost is the
model's reading (log entry 32). A timer that does not run does nothing (log entry 3). -/
def Obligations.TransportTimers : Prop :=
  (∀ (s : State) (x : Byte), s.xp.motion = .starting → s.xp.rampTimer = some x →
    s.wch.held = none → s.xp.timing.linger ≠ 0 →
    ∃ t, exec .startRampExpiry s = .next t ∧ t.xp.motion = .running ∧ t.xp.dir = s.xp.dir ∧
      t.xp.rampTimer = none ∧ t.xp.keptIdle = false ∧
      t.xp.lingerTimer = (if s.xp.keptIdle
        then some s.xp.timing.linger else none) ∧
      t.seq = s.seq ∧ t.pool = s.pool ∧ t.pos = s.pos ∧ t.host = s.host ∧ t.rch = s.rch ∧
      t.stream = s.stream ∧ t.pending = s.pending) ∧
  (∀ (s : State) (x : Byte), s.xp.motion = .stopping → s.xp.rampTimer = some x →
    s.rch.phase = .silent → s.seq.state = .idle ∨ s.seq.state = .frozen →
    s.xp.unloadInd = false →
    ∃ t, exec .stopRampExpiry s = .next t ∧ t.xp.motion = .stopped ∧ t.xp.rampTimer = none ∧
      t.xp.held = none ∧ t.seq = s.seq ∧ t.pool = s.pool ∧ t.pos = s.pos ∧ t.host = s.host ∧
      t.rch = s.rch ∧
      t.stream = s.stream ∧ t.pending = s.pending ∧ t.wch.wgate = false ∧ t.wch.egate = false) ∧
  (∀ (s : State) (x : Byte), s.xp.motion = .stopping → s.xp.rampTimer = some x →
    s.rch.phase = .silent → s.seq.state ∈ [.running, .stopping, .recovery, .postWait] →
    s.xp.unloadInd = false →
    exec .stopRampExpiry s = exec .heldRequestAnswered { s with
      wch := { s.wch with wgate := false, egate := false, run := false }
      xp := { s.xp with
        motion := .stopped, fast := false, keptIdle := false, rampTimer := none
        lingerTimer := none, rewindTimer := none, blankTimer := none } }) ∧
  (∀ (s : State) (x : Byte), s.xp.motion = .running → s.xp.lingerTimer = some x →
    ∃ t, exec .lingerExpiry s = .next t ∧ t.xp.motion = .stopping ∧ t.xp.dir = s.xp.dir ∧
      t.xp.rampTimer = some s.xp.timing.stopRamp ∧ t.xp.lingerTimer = none ∧
      t.wch.wgate = false ∧ t.wch.egate = false ∧ t.seq = s.seq ∧ t.pool = s.pool ∧
      t.pos = s.pos ∧ t.host = s.host ∧ t.stream = s.stream ∧ t.pending = s.pending) ∧
  (∀ (s : State) (x : Byte), s.xp.motion = .rewinding ∨ s.xp.motion = .unloading →
    s.xp.rewindTimer = some x → s.seq.state = .idle → s.rch.phase = .silent →
    ∃ t, exec .rewindLimitExpiry s = .next t ∧ t.xp.motion = .fault ∧ t.xp.rewindTimer = none ∧
      t.xp.unloadInd = false ∧
      t.pos = { s.pos with zone := .unknown, file := none, block := none } ∧ t.seq = s.seq ∧
      t.pool = s.pool ∧ t.host = s.host ∧ t.stream = s.stream ∧ t.pending = s.pending) ∧
  (∀ (s : State) (x : Byte) (p : Pool), s.xp.motion = .rewinding ∨ s.xp.motion = .unloading →
    s.xp.rewindTimer = some x → s.rch.phase = .silent → s.xp.deferred = [] →
    s.host.results.length < 16 → s.entryGivesBack p →
    ∃ t r, exec .rewindLimitExpiry s = .next t ∧
      s.listEndedWith t r .transportFault .terminal ∧ r.record = s.seq.record ∧
      r.index = s.seq.cur ∧ r.file = none ∧ r.block = none ∧ t.xp.motion = .fault ∧
      t.xp.rewindTimer = none ∧ t.xp.held = none ∧ t.xp.unloadInd = false ∧
      t.pos = { s.pos with zone := .unknown, file := none, block := none } ∧ t.pool = p ∧
      t.rch.tagMem = none ∧ t.stream = s.stream ∧ t.capture = s.capture) ∧
  ∀ s : State, s.xp.rampTimer = none → s.xp.lingerTimer = none → s.xp.rewindTimer = none →
    exec .startRampExpiry s = .next s ∧ exec .stopRampExpiry s = .next s ∧
    exec .lingerExpiry s = .next s ∧ exec .rewindLimitExpiry s = .next s

/-- The transport's follow-on steps (R153, R154, R157, R161): a held request is taken once the tape
is at rest; a deferred STOP is taken once the channel has left BLOCK; a kept idle report begins the
linger in RUNNING; the eject phase begins from STOPPED with the unload indication set. Without one
of these, nothing changes (the model's reading, log entry 3). -/
def Obligations.TransportFollowOnSteps : Prop :=
  (∀ (s : State) (d : Dir), s.xp.motion = .stopped → s.xp.held = some (.dir d) →
    s.xp.unloadInd = false → (d = .forward → s.xp.levels.eom = false) →
    (d = .reverse → s.xp.levels.bom = false) →
    ∃ t, exec .heldRequestAnswered s = .next t ∧ t.xp.motion = .starting ∧ t.xp.dir = d ∧
      t.xp.held = none ∧ t.xp.rampTimer = some s.xp.timing.startRamp ∧ t.seq = s.seq ∧
      t.pool = s.pool ∧ t.pos = s.pos ∧ t.host = s.host ∧ t.stream = s.stream ∧
      t.pending = s.pending) ∧
  (∀ s : State, s.xp.deferred = [.stop] → s.wch.phase ≠ .block → s.xp.motion = .running →
    ∃ t, exec .deferredRequestTaken s = .next t ∧ t.xp.motion = .stopping ∧
      t.xp.deferred = [] ∧ t.xp.rampTimer = some s.xp.timing.stopRamp ∧ t.seq = s.seq ∧
      t.pool = s.pool ∧ t.pos = s.pos ∧ t.host = s.host ∧ t.stream = s.stream ∧
      t.pending = s.pending) ∧
  (∀ s : State, s.xp.motion = .running → s.xp.keptIdle = true → s.xp.lingerTimer = none →
    s.xp.timing.linger ≠ 0 →
    exec .keptIdleReportTaken s = .next { s with
      xp := { s.xp with keptIdle := false, lingerTimer := some s.xp.timing.linger } }) ∧
  (∀ s : State, s.xp.motion = .stopped → s.xp.unloadInd = true →
    ∃ t, exec .ejectPhaseBegin s = .next t ∧ t.xp.motion = .unloading ∧
      t.xp.unloadLine = true ∧ t.xp.unloadInd = false ∧
      t.xp.rewindTimer = some s.xp.timing.rewindLimit ∧ t.rch.tagMem = none ∧
      t.rch.straddle = none ∧ t.seq = s.seq ∧ t.pool = s.pool ∧ t.pos = s.pos ∧
      t.host = s.host ∧ t.stream = s.stream ∧ t.pending = s.pending) ∧
  ∀ s : State, s.xp.held = none → s.xp.deferred = [] → s.xp.keptIdle = false →
    s.xp.unloadInd = false →
    exec .heldRequestAnswered s = .next s ∧ exec .deferredRequestTaken s = .next s ∧
    exec .keptIdleReportTaken s = .next s ∧ exec .ejectPhaseBegin s = .next s

/-! ## What every step keeps -/

/-- The gates stay within their conditions: from every state that keeps the law of the gates, every
step gives one that keeps it (R96, R97). -/
def Obligations.GatesStayLawful : Prop :=
  ∀ s t : State, s.gatesLawful → step s = .next t → t.gatesLawful

/-- Each queue of the pool holds the slots of its state, each once, after every step (R18, R24). -/
def Obligations.QueuesStayLawful : Prop :=
  ∀ s t : State, s.pool.queuesLawful → step s = .next t → t.pool.queuesLawful

/-- The position record and the file map keep their law through every step (R135, R143). -/
def Obligations.PositionStaysLawful : Prop :=
  ∀ s t : State, s.pos.lawful → step s = .next t → t.pos.lawful

/-- The addressed stores stay in their canonical form and range, the result queue within 16 entries,
the timing table and the stream port within their ranges, through every step (R17, R45, R152, R170,
R189). -/
def Obligations.StoresAndRangesStayLawful : Prop :=
  ∀ s t : State, step s = .next t →
    (s.storesLawful → t.storesLawful) ∧ (s.resultsLawful → t.resultsLawful) ∧
    (s.xp.timing.lawful → t.xp.timing.lawful) ∧ (s.stream.lawful → t.stream.lawful)

/-! ## Detections -/

/-- What the end of a burst does to the running unit (R14, R50 to R52, R63, R71, R126, R127, R130,
R131): the silent row that ends the burst is taken, and the detection is handed on in the same
event. A block in its direction is a unit of a SPACE, and passes a SEEK; a mark ends a SPACE or READ
entry FILE_MARK_MET, or DONE for a count of 0, a READ unit's slot then FREE, and is a unit of a
SEEK; noise leaves the unit running. A READ unit's block is delivered by its class and its finding:
it joins the read queue's tail with the finding's flag; a duplicate under SUPERSEDE of the tail's
tag takes the place of a DAMAGED tail with SUPERSEDES set, and is dropped for any other, the unit
then claiming again. A DAMAGED block with NO_RECOVERY and FREEZE_ON_FAILURE enters FROZEN. A unit
that is not the last of its entry leaves units done one higher and the tape running, and the next
unit of the entry begins: a READ unit claims the lowest FREE slot (R22, R60). After an entry that is
not the last, or in CYCLE mode, the entry that follows begins with a fresh record, M0 with one cycle
more and the tag memory kept (R64, R129). -/
def Obligations.DetectionReachesTheUnit : Prop :=
  ∀ (x : Row) (s u : State), s.xp.motion = .running → s.wch.phase = .idle →
    s.rch.phase ≠ .silent → s.rch.silence.toNat ≤ s.rch.silentRows.length + 1 →
    s.seq.state = .running → s.seq.stopInd = false → s.host.results.length < 16 →
    (s.endBurst .silence = (u, none) → exec (.readHeadRow x silentRow) s = .next u) ∧
    ∀ f, s.endBurst .silence = (u, some f) →
      (∀ d, s.seq.work = .space d → f.kind = .data → f.dir = d → s.lastEntry →
        s.entry.count.toNat = s.seq.record.unitsDone + 1 →
        ∃ t r, exec (.readHeadRow x silentRow) s = .next t ∧ s.listEndedWith t r .done .completed ∧
          r.record = { s.seq.record with unitsDone := s.seq.record.unitsDone + 1 } ∧
          t.xp.motion = .stopping ∧ t.pool = u.pool ∧ t.pos = u.pos ∧ t.rch = u.rch ∧
          t.stream = s.stream ∧ t.capture = u.capture) ∧
      (∀ d, s.seq.work = .seek d → f.kind = .data →
        exec (.readHeadRow x silentRow) s = .next u) ∧
      (∀ d o p, (s.seq.work = .space d ∧ p = u.pool) ∨ (∃ n, s.seq.work = .read n ∧
            d = .forward ∧ (u.slot n).state = .active ∧ u.stream.state ≠ .starved ∧
            p = u.pool.put n SlotRecord.free) →
        f.kind = .mark → f.dir = d → s.lastEntry ∨ (s.entry.haltOnShort = true ∧ s.entry.count ≠ 0) →
        o = (if s.entry.count = 0 then .done else .fileMarkMet) →
        ∃ t r, exec (.readHeadRow x silentRow) s = .next t ∧ s.listEndedWith t r o .completed ∧
          r.record = s.seq.record ∧ t.xp.motion = .stopping ∧ t.pool = p ∧ t.pos = u.pos ∧
          t.stream = s.stream) ∧
      (∀ d, s.seq.work = .seek d → f.kind = .mark → f.dir = d → s.lastEntry →
        s.entry.count.toNat = s.seq.record.unitsDone + 1 →
        ∃ t r, exec (.readHeadRow x silentRow) s = .next t ∧ s.listEndedWith t r .done .completed ∧
          r.record = { s.seq.record with unitsDone := s.seq.record.unitsDone + 1 } ∧
          t.xp.motion = .stopping ∧ t.pool = u.pool ∧ t.pos = u.pos ∧ t.stream = s.stream) ∧
      (∀ n c, s.seq.work = .read n → f.kind = .data → f.dir = .forward → f.stored = some (n, c) →
        c ≠ .damaged → (u.slot n).state = .active → s.lastEntry →
        s.entry.count.toNat = s.seq.record.unitsDone + 1 →
        ¬ ((u.slot n).read.finding = .duplicate ∧ s.entry.supersede = true) →
        ∃ t r, exec (.readHeadRow x silentRow) s = .next t ∧ s.listEndedWith t r .done .completed ∧
          r.record = { s.seq.record with
            unitsDone := s.seq.record.unitsDone + 1
            marginalSeen := s.seq.record.marginalSeen || c == .marginal } ∧
          t.pool = { u.pool.put n { u.slot n with
              state := .ready
              read := { (u.slot n).read with
                sequenceBreak := (u.slot n).read.sequenceBreak ||
                  (u.slot n).read.finding == .seqBreak
                duplicate := (u.slot n).read.duplicate ||
                  (u.slot n).read.finding == .duplicate } } with
            readQ := u.pool.readQ ++ [n]
            drain := if u.pool.readQ = [] then 0 else u.pool.drain } ∧
          (u.pool.readQ = [] → t.event .readAvailable = true) ∧ t.pos = u.pos) ∧
      (∀ n m c l, s.seq.work = .read n → f.kind = .data → f.dir = .forward →
        f.stored = some (n, c) → c ≠ .damaged → (u.slot n).state = .active →
        (u.slot n).read.finding = .duplicate → s.entry.supersede = true →
        u.pool.readQ = l ++ [m] → m ≠ n → (u.slot m).source = some .medium →
        (u.slot m).tag = (u.slot n).tag → (u.slot n).tag ≠ none → 0 < u.pool.freeCount →
        u.stream.state ≠ .starved → s.lastEntry →
        s.entry.count.toNat = s.seq.record.unitsDone + 1 →
        ((u.slot m).read.cls = some .damaged →
          ∃ t r, exec (.readHeadRow x silentRow) s = .next t ∧
            s.listEndedWith t r .done .completed ∧
            r.record.unitsDone = s.seq.record.unitsDone + 1 ∧
            t.pool = { (u.pool.put m SlotRecord.free).put n { u.slot n with
                state := .ready, read := { (u.slot n).read with supersedes := true } } with
              readQ := l ++ [n]
              drain := if l = [] then 0 else u.pool.drain }) ∧
        ((u.slot m).read.cls ≠ some .damaged →
          s.entry.opcode = 0x03 → (∀ k, k < n → (u.slot k).state ≠ .free) →
          s.xp.dir = .forward → s.xp.levels.eom = false →
          ∃ t, exec (.readHeadRow x silentRow) s = .next t ∧
            t.seq = { u.seq with
              work := .read n
              record := { s.seq.record with dropped := bump s.seq.record.dropped } } ∧
            t.pool = u.pool.put n { SlotRecord.free with
              state := .active, source := some .medium, kind := some .data } ∧
            t.host = u.host ∧ t.xp.motion = .running ∧ t.pos = u.pos)) ∧
      (∀ d op, (s.seq.work = .space d ∧ f.kind = .data ∧
            op = (if d = .forward then 0x04 else 0x05)) ∨
          (s.seq.work = .seek d ∧ f.kind = .mark ∧ op = (if d = .forward then 0x06 else 0x07)) →
        f.dir = d → s.xp.dir = d → s.entry.opcode = op → s.unitFollows →
        (d = .forward → s.xp.levels.eom = false) → (d = .reverse → s.xp.levels.bom = false) →
        ∃ t, exec (.readHeadRow x silentRow) s = .next t ∧ t.seq = s.seq.unitDone s.seq.work ∧
          t.xp.motion = .running ∧ t.xp.dir = d ∧ t.host = u.host ∧ t.pool = u.pool ∧
          t.pos = u.pos ∧ t.rch.tagMem = u.rch.tagMem ∧ t.stream = s.stream ∧
          t.capture = u.capture ∧ t.pending = s.pending) ∧
      (∀ n k c, s.seq.work = .read n → f.kind = .data → f.dir = .forward → s.xp.dir = .forward →
        f.stored = some (n, c) → c ≠ .damaged → (u.slot n).state = .active → s.unitFollows →
        s.entry.opcode = 0x03 → s.xp.levels.eom = false →
        ¬ ((u.slot n).read.finding = .duplicate ∧ s.entry.supersede = true) →
        (u.slot k).state = .free → (∀ j, j < k → (u.slot j).state ≠ .free) →
        ∃ t, exec (.readHeadRow x silentRow) s = .next t ∧
          t.seq = { s.seq with
            work := .read k
            record := { s.seq.record with
              unitsDone := bump s.seq.record.unitsDone
              marginalSeen := s.seq.record.marginalSeen || c == .marginal } } ∧
          t.pool = { (u.pool.put n { u.slot n with
                state := .ready, read := (u.slot n).read.flagged }).put k
              { SlotRecord.free with
                state := .active, source := some .medium, kind := some .data } with
            readQ := u.pool.readQ ++ [n]
            drain := if u.pool.readQ = [] then 0 else u.pool.drain } ∧
          t.host = (if u.pool.readQ = [] then u.host.flagged .readAvailable else u.host) ∧
          t.xp.motion = .running ∧ t.pos = u.pos ∧ t.stream = s.stream ∧ t.pending = s.pending) ∧
      (∀ o w g, s.passFollows w → f.dir = .forward → s.xp.dir = .forward →
        s.xp.levels.eom = false →
        (((s.seq.work = .space .forward ∧ f.kind = .data) ∨
              (s.seq.work = .seek .forward ∧ f.kind = .mark)) ∧
            s.entry.count.toNat = s.seq.record.unitsDone + 1 ∧ o = .done ∧
            g = { s.seq.record with unitsDone := s.seq.record.unitsDone + 1 }) ∨
          (s.seq.work = .space .forward ∧ f.kind = .mark ∧ g = s.seq.record ∧
            ((s.entry.count = 0 ∧ o = .done) ∨
              (s.entry.count ≠ 0 ∧ s.entry.haltOnShort = false ∧ o = .fileMarkMet))) →
        ∃ t r, exec (.readHeadRow x silentRow) s = .next t ∧ s.wentOnWith t r o w ∧
          r.record = g ∧ t.xp.motion = .running ∧ t.xp.dir = .forward ∧ t.pool = u.pool ∧
          t.pos = u.pos ∧ t.rch.tagMem = u.rch.tagMem ∧ t.stream = s.stream ∧
          t.capture = u.capture) ∧
      ∀ n, s.seq.work = .read n → f.kind = .data → f.dir = .forward →
        f.stored = some (n, .damaged) → s.entry.noRecovery = true →
        s.seq.ctl.freezeOnFailure = true →
        ∃ t, exec (.readHeadRow x silentRow) s = .next t ∧ t.pool = u.pool ∧
          t.host = u.host.flagged .frozenEntered ∧ t.xp.motion = .stopping ∧
          t.seq = { u.seq with
            state := .frozen, work := .none
            episode := some
              { kind := .read, slot := some n, tag := (u.slot n).tag
                budget := s.entry.budget.toNat, attempts := 0, cur := none, last := .damaged } } ∧
          t.capture = u.capture ∧ t.pos = u.pos ∧ t.stream = s.stream
end

