-- ==== Sys2Proof/Laws/State.lean ====
section
/-! SUPPORT. One lemma for each field and each update of the state: what a setter, and what a small
named update of the host port, leaves in every field. -/

namespace Sys2Proof.Machine

/-! ## setHost -/

@[simp] theorem State.setHost_pending (v : HostPort) (s : State) :
    (s.setHost v).pending = s.pending := rfl
@[simp] theorem State.setHost_host (v : HostPort) (s : State) :
    (s.setHost v).host = v := rfl
@[simp] theorem State.setHost_pool (v : HostPort) (s : State) :
    (s.setHost v).pool = s.pool := rfl
@[simp] theorem State.setHost_seq (v : HostPort) (s : State) :
    (s.setHost v).seq = s.seq := rfl
@[simp] theorem State.setHost_wch (v : HostPort) (s : State) :
    (s.setHost v).wch = s.wch := rfl
@[simp] theorem State.setHost_rch (v : HostPort) (s : State) :
    (s.setHost v).rch = s.rch := rfl
@[simp] theorem State.setHost_capture (v : HostPort) (s : State) :
    (s.setHost v).capture = s.capture := rfl
@[simp] theorem State.setHost_pos (v : HostPort) (s : State) :
    (s.setHost v).pos = s.pos := rfl
@[simp] theorem State.setHost_xp (v : HostPort) (s : State) :
    (s.setHost v).xp = s.xp := rfl
@[simp] theorem State.setHost_stream (v : HostPort) (s : State) :
    (s.setHost v).stream = s.stream := rfl

/-! ## setPool -/

@[simp] theorem State.setPool_pending (v : Pool) (s : State) :
    (s.setPool v).pending = s.pending := rfl
@[simp] theorem State.setPool_host (v : Pool) (s : State) :
    (s.setPool v).host = s.host := rfl
@[simp] theorem State.setPool_pool (v : Pool) (s : State) :
    (s.setPool v).pool = v := rfl
@[simp] theorem State.setPool_seq (v : Pool) (s : State) :
    (s.setPool v).seq = s.seq := rfl
@[simp] theorem State.setPool_wch (v : Pool) (s : State) :
    (s.setPool v).wch = s.wch := rfl
@[simp] theorem State.setPool_rch (v : Pool) (s : State) :
    (s.setPool v).rch = s.rch := rfl
@[simp] theorem State.setPool_capture (v : Pool) (s : State) :
    (s.setPool v).capture = s.capture := rfl
@[simp] theorem State.setPool_pos (v : Pool) (s : State) :
    (s.setPool v).pos = s.pos := rfl
@[simp] theorem State.setPool_xp (v : Pool) (s : State) :
    (s.setPool v).xp = s.xp := rfl
@[simp] theorem State.setPool_stream (v : Pool) (s : State) :
    (s.setPool v).stream = s.stream := rfl

/-! ## setSeq -/

@[simp] theorem State.setSeq_pending (v : Sequencer) (s : State) :
    (s.setSeq v).pending = s.pending := rfl
@[simp] theorem State.setSeq_host (v : Sequencer) (s : State) :
    (s.setSeq v).host = s.host := rfl
@[simp] theorem State.setSeq_pool (v : Sequencer) (s : State) :
    (s.setSeq v).pool = s.pool := rfl
@[simp] theorem State.setSeq_seq (v : Sequencer) (s : State) :
    (s.setSeq v).seq = v := rfl
@[simp] theorem State.setSeq_wch (v : Sequencer) (s : State) :
    (s.setSeq v).wch = s.wch := rfl
@[simp] theorem State.setSeq_rch (v : Sequencer) (s : State) :
    (s.setSeq v).rch = s.rch := rfl
@[simp] theorem State.setSeq_capture (v : Sequencer) (s : State) :
    (s.setSeq v).capture = s.capture := rfl
@[simp] theorem State.setSeq_pos (v : Sequencer) (s : State) :
    (s.setSeq v).pos = s.pos := rfl
@[simp] theorem State.setSeq_xp (v : Sequencer) (s : State) :
    (s.setSeq v).xp = s.xp := rfl
@[simp] theorem State.setSeq_stream (v : Sequencer) (s : State) :
    (s.setSeq v).stream = s.stream := rfl

/-! ## setWch -/

@[simp] theorem State.setWch_pending (v : WriteChannel) (s : State) :
    (s.setWch v).pending = s.pending := rfl
@[simp] theorem State.setWch_host (v : WriteChannel) (s : State) :
    (s.setWch v).host = s.host := rfl
@[simp] theorem State.setWch_pool (v : WriteChannel) (s : State) :
    (s.setWch v).pool = s.pool := rfl
@[simp] theorem State.setWch_seq (v : WriteChannel) (s : State) :
    (s.setWch v).seq = s.seq := rfl
@[simp] theorem State.setWch_wch (v : WriteChannel) (s : State) :
    (s.setWch v).wch = v := rfl
@[simp] theorem State.setWch_rch (v : WriteChannel) (s : State) :
    (s.setWch v).rch = s.rch := rfl
@[simp] theorem State.setWch_capture (v : WriteChannel) (s : State) :
    (s.setWch v).capture = s.capture := rfl
@[simp] theorem State.setWch_pos (v : WriteChannel) (s : State) :
    (s.setWch v).pos = s.pos := rfl
@[simp] theorem State.setWch_xp (v : WriteChannel) (s : State) :
    (s.setWch v).xp = s.xp := rfl
@[simp] theorem State.setWch_stream (v : WriteChannel) (s : State) :
    (s.setWch v).stream = s.stream := rfl

/-! ## setRch -/

@[simp] theorem State.setRch_pending (v : ReadChannel) (s : State) :
    (s.setRch v).pending = s.pending := rfl
@[simp] theorem State.setRch_host (v : ReadChannel) (s : State) :
    (s.setRch v).host = s.host := rfl
@[simp] theorem State.setRch_pool (v : ReadChannel) (s : State) :
    (s.setRch v).pool = s.pool := rfl
@[simp] theorem State.setRch_seq (v : ReadChannel) (s : State) :
    (s.setRch v).seq = s.seq := rfl
@[simp] theorem State.setRch_wch (v : ReadChannel) (s : State) :
    (s.setRch v).wch = s.wch := rfl
@[simp] theorem State.setRch_rch (v : ReadChannel) (s : State) :
    (s.setRch v).rch = v := rfl
@[simp] theorem State.setRch_capture (v : ReadChannel) (s : State) :
    (s.setRch v).capture = s.capture := rfl
@[simp] theorem State.setRch_pos (v : ReadChannel) (s : State) :
    (s.setRch v).pos = s.pos := rfl
@[simp] theorem State.setRch_xp (v : ReadChannel) (s : State) :
    (s.setRch v).xp = s.xp := rfl
@[simp] theorem State.setRch_stream (v : ReadChannel) (s : State) :
    (s.setRch v).stream = s.stream := rfl

/-! ## setCapture -/

@[simp] theorem State.setCapture_pending (v : Option Capture) (s : State) :
    (s.setCapture v).pending = s.pending := rfl
@[simp] theorem State.setCapture_host (v : Option Capture) (s : State) :
    (s.setCapture v).host = s.host := rfl
@[simp] theorem State.setCapture_pool (v : Option Capture) (s : State) :
    (s.setCapture v).pool = s.pool := rfl
@[simp] theorem State.setCapture_seq (v : Option Capture) (s : State) :
    (s.setCapture v).seq = s.seq := rfl
@[simp] theorem State.setCapture_wch (v : Option Capture) (s : State) :
    (s.setCapture v).wch = s.wch := rfl
@[simp] theorem State.setCapture_rch (v : Option Capture) (s : State) :
    (s.setCapture v).rch = s.rch := rfl
@[simp] theorem State.setCapture_capture (v : Option Capture) (s : State) :
    (s.setCapture v).capture = v := rfl
@[simp] theorem State.setCapture_pos (v : Option Capture) (s : State) :
    (s.setCapture v).pos = s.pos := rfl
@[simp] theorem State.setCapture_xp (v : Option Capture) (s : State) :
    (s.setCapture v).xp = s.xp := rfl
@[simp] theorem State.setCapture_stream (v : Option Capture) (s : State) :
    (s.setCapture v).stream = s.stream := rfl

/-! ## setPos -/

@[simp] theorem State.setPos_pending (v : Position) (s : State) :
    (s.setPos v).pending = s.pending := rfl
@[simp] theorem State.setPos_host (v : Position) (s : State) :
    (s.setPos v).host = s.host := rfl
@[simp] theorem State.setPos_pool (v : Position) (s : State) :
    (s.setPos v).pool = s.pool := rfl
@[simp] theorem State.setPos_seq (v : Position) (s : State) :
    (s.setPos v).seq = s.seq := rfl
@[simp] theorem State.setPos_wch (v : Position) (s : State) :
    (s.setPos v).wch = s.wch := rfl
@[simp] theorem State.setPos_rch (v : Position) (s : State) :
    (s.setPos v).rch = s.rch := rfl
@[simp] theorem State.setPos_capture (v : Position) (s : State) :
    (s.setPos v).capture = s.capture := rfl
@[simp] theorem State.setPos_pos (v : Position) (s : State) :
    (s.setPos v).pos = v := rfl
@[simp] theorem State.setPos_xp (v : Position) (s : State) :
    (s.setPos v).xp = s.xp := rfl
@[simp] theorem State.setPos_stream (v : Position) (s : State) :
    (s.setPos v).stream = s.stream := rfl

/-! ## setXp -/

@[simp] theorem State.setXp_pending (v : Transport) (s : State) :
    (s.setXp v).pending = s.pending := rfl
@[simp] theorem State.setXp_host (v : Transport) (s : State) :
    (s.setXp v).host = s.host := rfl
@[simp] theorem State.setXp_pool (v : Transport) (s : State) :
    (s.setXp v).pool = s.pool := rfl
@[simp] theorem State.setXp_seq (v : Transport) (s : State) :
    (s.setXp v).seq = s.seq := rfl
@[simp] theorem State.setXp_wch (v : Transport) (s : State) :
    (s.setXp v).wch = s.wch := rfl
@[simp] theorem State.setXp_rch (v : Transport) (s : State) :
    (s.setXp v).rch = s.rch := rfl
@[simp] theorem State.setXp_capture (v : Transport) (s : State) :
    (s.setXp v).capture = s.capture := rfl
@[simp] theorem State.setXp_pos (v : Transport) (s : State) :
    (s.setXp v).pos = s.pos := rfl
@[simp] theorem State.setXp_xp (v : Transport) (s : State) :
    (s.setXp v).xp = v := rfl
@[simp] theorem State.setXp_stream (v : Transport) (s : State) :
    (s.setXp v).stream = s.stream := rfl

/-! ## setStream -/

@[simp] theorem State.setStream_pending (v : StreamPort) (s : State) :
    (s.setStream v).pending = s.pending := rfl
@[simp] theorem State.setStream_host (v : StreamPort) (s : State) :
    (s.setStream v).host = s.host := rfl
@[simp] theorem State.setStream_pool (v : StreamPort) (s : State) :
    (s.setStream v).pool = s.pool := rfl
@[simp] theorem State.setStream_seq (v : StreamPort) (s : State) :
    (s.setStream v).seq = s.seq := rfl
@[simp] theorem State.setStream_wch (v : StreamPort) (s : State) :
    (s.setStream v).wch = s.wch := rfl
@[simp] theorem State.setStream_rch (v : StreamPort) (s : State) :
    (s.setStream v).rch = s.rch := rfl
@[simp] theorem State.setStream_capture (v : StreamPort) (s : State) :
    (s.setStream v).capture = s.capture := rfl
@[simp] theorem State.setStream_pos (v : StreamPort) (s : State) :
    (s.setStream v).pos = s.pos := rfl
@[simp] theorem State.setStream_xp (v : StreamPort) (s : State) :
    (s.setStream v).xp = s.xp := rfl
@[simp] theorem State.setStream_stream (v : StreamPort) (s : State) :
    (s.setStream v).stream = v := rfl

/-! ## touch -/

@[simp] theorem State.touch_pending (s : State) : (s.touch).pending = s.pending := rfl
@[simp] theorem State.touch_pool (s : State) : (s.touch).pool = s.pool := rfl
@[simp] theorem State.touch_seq (s : State) : (s.touch).seq = s.seq := rfl
@[simp] theorem State.touch_wch (s : State) : (s.touch).wch = s.wch := rfl
@[simp] theorem State.touch_rch (s : State) : (s.touch).rch = s.rch := rfl
@[simp] theorem State.touch_capture (s : State) : (s.touch).capture = s.capture := rfl
@[simp] theorem State.touch_pos (s : State) : (s.touch).pos = s.pos := rfl
@[simp] theorem State.touch_xp (s : State) : (s.touch).xp = s.xp := rfl
@[simp] theorem State.touch_stream (s : State) : (s.touch).stream = s.stream := rfl
@[simp] theorem State.touch_host_cmdstat (s : State) :
    (s.touch).host.cmdstat = s.host.cmdstat := rfl
@[simp] theorem State.touch_host_cmdIndex (s : State) :
    (s.touch).host.cmdIndex = s.host.cmdIndex := rfl
@[simp] theorem State.touch_host_cmdarg (s : State) :
    (s.touch).host.cmdarg = s.host.cmdarg := rfl
@[simp] theorem State.touch_host_hoststat (s : State) :
    (s.touch).host.hoststat = s.host.hoststat := rfl
@[simp] theorem State.touch_host_events (s : State) :
    (s.touch).host.events = s.host.events := rfl
@[simp] theorem State.touch_host_evmask (s : State) :
    (s.touch).host.evmask = s.host.evmask := rfl
@[simp] theorem State.touch_host_results (s : State) :
    (s.touch).host.results = s.host.results := rfl
@[simp] theorem State.touch_host_slotSel (s : State) :
    (s.touch).host.slotSel = s.host.slotSel := rfl
@[simp] theorem State.touch_host_slotIx (s : State) :
    (s.touch).host.slotIx = s.host.slotIx := rfl
@[simp] theorem State.touch_host_resptr (s : State) :
    (s.touch).host.resptr = s.host.resptr := rfl
@[simp] theorem State.touch_host_capptr (s : State) :
    (s.touch).host.capptr = s.host.capptr := rfl
@[simp] theorem State.touch_host_seqIx (s : State) :
    (s.touch).host.seqIx = 0 := rfl
@[simp] theorem State.touch_host_xpIx (s : State) :
    (s.touch).host.xpIx = 0 := rfl
@[simp] theorem State.touch_host_busOut (s : State) :
    (s.touch).host.busOut = s.host.busOut := rfl

/-! ## raise -/

@[simp] theorem State.raise_pending (e : Event) (s : State) : (s.raise e).pending = s.pending := rfl
@[simp] theorem State.raise_pool (e : Event) (s : State) : (s.raise e).pool = s.pool := rfl
@[simp] theorem State.raise_seq (e : Event) (s : State) : (s.raise e).seq = s.seq := rfl
@[simp] theorem State.raise_wch (e : Event) (s : State) : (s.raise e).wch = s.wch := rfl
@[simp] theorem State.raise_rch (e : Event) (s : State) : (s.raise e).rch = s.rch := rfl
@[simp] theorem State.raise_capture (e : Event) (s : State) : (s.raise e).capture = s.capture := rfl
@[simp] theorem State.raise_pos (e : Event) (s : State) : (s.raise e).pos = s.pos := rfl
@[simp] theorem State.raise_xp (e : Event) (s : State) : (s.raise e).xp = s.xp := rfl
@[simp] theorem State.raise_stream (e : Event) (s : State) : (s.raise e).stream = s.stream := rfl
@[simp] theorem State.raise_host_cmdstat (e : Event) (s : State) :
    (s.raise e).host.cmdstat = s.host.cmdstat := rfl
@[simp] theorem State.raise_host_cmdIndex (e : Event) (s : State) :
    (s.raise e).host.cmdIndex = s.host.cmdIndex := rfl
@[simp] theorem State.raise_host_cmdarg (e : Event) (s : State) :
    (s.raise e).host.cmdarg = s.host.cmdarg := rfl
@[simp] theorem State.raise_host_hoststat (e : Event) (s : State) :
    (s.raise e).host.hoststat = s.host.hoststat := rfl
@[simp] theorem State.raise_host_events (e : Event) (s : State) :
    (s.raise e).host.events = s.host.events ||| e.mask := rfl
@[simp] theorem State.raise_host_evmask (e : Event) (s : State) :
    (s.raise e).host.evmask = s.host.evmask := rfl
@[simp] theorem State.raise_host_results (e : Event) (s : State) :
    (s.raise e).host.results = s.host.results := rfl
@[simp] theorem State.raise_host_slotSel (e : Event) (s : State) :
    (s.raise e).host.slotSel = s.host.slotSel := rfl
@[simp] theorem State.raise_host_slotIx (e : Event) (s : State) :
    (s.raise e).host.slotIx = s.host.slotIx := rfl
@[simp] theorem State.raise_host_resptr (e : Event) (s : State) :
    (s.raise e).host.resptr = s.host.resptr := rfl
@[simp] theorem State.raise_host_capptr (e : Event) (s : State) :
    (s.raise e).host.capptr = s.host.capptr := rfl
@[simp] theorem State.raise_host_seqIx (e : Event) (s : State) :
    (s.raise e).host.seqIx = s.host.seqIx := rfl
@[simp] theorem State.raise_host_xpIx (e : Event) (s : State) :
    (s.raise e).host.xpIx = s.host.xpIx := rfl
@[simp] theorem State.raise_host_busOut (e : Event) (s : State) :
    (s.raise e).host.busOut = s.host.busOut := rfl

/-! ## stick -/

@[simp] theorem State.stick_pending (f : HostFlag) (s : State) : (s.stick f).pending = s.pending := rfl
@[simp] theorem State.stick_pool (f : HostFlag) (s : State) : (s.stick f).pool = s.pool := rfl
@[simp] theorem State.stick_seq (f : HostFlag) (s : State) : (s.stick f).seq = s.seq := rfl
@[simp] theorem State.stick_wch (f : HostFlag) (s : State) : (s.stick f).wch = s.wch := rfl
@[simp] theorem State.stick_rch (f : HostFlag) (s : State) : (s.stick f).rch = s.rch := rfl
@[simp] theorem State.stick_capture (f : HostFlag) (s : State) : (s.stick f).capture = s.capture := rfl
@[simp] theorem State.stick_pos (f : HostFlag) (s : State) : (s.stick f).pos = s.pos := rfl
@[simp] theorem State.stick_xp (f : HostFlag) (s : State) : (s.stick f).xp = s.xp := rfl
@[simp] theorem State.stick_stream (f : HostFlag) (s : State) : (s.stick f).stream = s.stream := rfl
@[simp] theorem State.stick_host_cmdstat (f : HostFlag) (s : State) :
    (s.stick f).host.cmdstat = s.host.cmdstat := rfl
@[simp] theorem State.stick_host_cmdIndex (f : HostFlag) (s : State) :
    (s.stick f).host.cmdIndex = s.host.cmdIndex := rfl
@[simp] theorem State.stick_host_cmdarg (f : HostFlag) (s : State) :
    (s.stick f).host.cmdarg = s.host.cmdarg := rfl
@[simp] theorem State.stick_host_hoststat (f : HostFlag) (s : State) :
    (s.stick f).host.hoststat = s.host.hoststat ||| f.mask := rfl
@[simp] theorem State.stick_host_events (f : HostFlag) (s : State) :
    (s.stick f).host.events = s.host.events := rfl
@[simp] theorem State.stick_host_evmask (f : HostFlag) (s : State) :
    (s.stick f).host.evmask = s.host.evmask := rfl
@[simp] theorem State.stick_host_results (f : HostFlag) (s : State) :
    (s.stick f).host.results = s.host.results := rfl
@[simp] theorem State.stick_host_slotSel (f : HostFlag) (s : State) :
    (s.stick f).host.slotSel = s.host.slotSel := rfl
@[simp] theorem State.stick_host_slotIx (f : HostFlag) (s : State) :
    (s.stick f).host.slotIx = s.host.slotIx := rfl
@[simp] theorem State.stick_host_resptr (f : HostFlag) (s : State) :
    (s.stick f).host.resptr = s.host.resptr := rfl
@[simp] theorem State.stick_host_capptr (f : HostFlag) (s : State) :
    (s.stick f).host.capptr = s.host.capptr := rfl
@[simp] theorem State.stick_host_seqIx (f : HostFlag) (s : State) :
    (s.stick f).host.seqIx = s.host.seqIx := rfl
@[simp] theorem State.stick_host_xpIx (f : HostFlag) (s : State) :
    (s.stick f).host.xpIx = s.host.xpIx := rfl
@[simp] theorem State.stick_host_busOut (f : HostFlag) (s : State) :
    (s.stick f).host.busOut = s.host.busOut := rfl

/-! ## answer -/

@[simp] theorem State.answer_pending (a : Answer) (s : State) : (s.answer a).pending = s.pending := rfl
@[simp] theorem State.answer_pool (a : Answer) (s : State) : (s.answer a).pool = s.pool := rfl
@[simp] theorem State.answer_seq (a : Answer) (s : State) : (s.answer a).seq = s.seq := rfl
@[simp] theorem State.answer_wch (a : Answer) (s : State) : (s.answer a).wch = s.wch := rfl
@[simp] theorem State.answer_rch (a : Answer) (s : State) : (s.answer a).rch = s.rch := rfl
@[simp] theorem State.answer_capture (a : Answer) (s : State) : (s.answer a).capture = s.capture := rfl
@[simp] theorem State.answer_pos (a : Answer) (s : State) : (s.answer a).pos = s.pos := rfl
@[simp] theorem State.answer_xp (a : Answer) (s : State) : (s.answer a).xp = s.xp := rfl
@[simp] theorem State.answer_stream (a : Answer) (s : State) : (s.answer a).stream = s.stream := rfl
@[simp] theorem State.answer_host_cmdstat (a : Answer) (s : State) :
    (s.answer a).host.cmdstat = a := rfl
@[simp] theorem State.answer_host_cmdIndex (a : Answer) (s : State) :
    (s.answer a).host.cmdIndex = 0 := rfl
@[simp] theorem State.answer_host_cmdarg (a : Answer) (s : State) :
    (s.answer a).host.cmdarg = s.host.cmdarg := rfl
@[simp] theorem State.answer_host_hoststat (a : Answer) (s : State) :
    (s.answer a).host.hoststat = s.host.hoststat := rfl
@[simp] theorem State.answer_host_events (a : Answer) (s : State) :
    (s.answer a).host.events = s.host.events := rfl
@[simp] theorem State.answer_host_evmask (a : Answer) (s : State) :
    (s.answer a).host.evmask = s.host.evmask := rfl
@[simp] theorem State.answer_host_results (a : Answer) (s : State) :
    (s.answer a).host.results = s.host.results := rfl
@[simp] theorem State.answer_host_slotSel (a : Answer) (s : State) :
    (s.answer a).host.slotSel = s.host.slotSel := rfl
@[simp] theorem State.answer_host_slotIx (a : Answer) (s : State) :
    (s.answer a).host.slotIx = s.host.slotIx := rfl
@[simp] theorem State.answer_host_resptr (a : Answer) (s : State) :
    (s.answer a).host.resptr = s.host.resptr := rfl
@[simp] theorem State.answer_host_capptr (a : Answer) (s : State) :
    (s.answer a).host.capptr = s.host.capptr := rfl
@[simp] theorem State.answer_host_seqIx (a : Answer) (s : State) :
    (s.answer a).host.seqIx = s.host.seqIx := rfl
@[simp] theorem State.answer_host_xpIx (a : Answer) (s : State) :
    (s.answer a).host.xpIx = s.host.xpIx := rfl
@[simp] theorem State.answer_host_busOut (a : Answer) (s : State) :
    (s.answer a).host.busOut = s.host.busOut := rfl

/-! ## answerBadList -/

@[simp] theorem State.answerBadList_pending (i : Nat) (s : State) : (s.answerBadList i).pending = s.pending := rfl
@[simp] theorem State.answerBadList_pool (i : Nat) (s : State) : (s.answerBadList i).pool = s.pool := rfl
@[simp] theorem State.answerBadList_seq (i : Nat) (s : State) : (s.answerBadList i).seq = s.seq := rfl
@[simp] theorem State.answerBadList_wch (i : Nat) (s : State) : (s.answerBadList i).wch = s.wch := rfl
@[simp] theorem State.answerBadList_rch (i : Nat) (s : State) : (s.answerBadList i).rch = s.rch := rfl
@[simp] theorem State.answerBadList_capture (i : Nat) (s : State) : (s.answerBadList i).capture = s.capture := rfl
@[simp] theorem State.answerBadList_pos (i : Nat) (s : State) : (s.answerBadList i).pos = s.pos := rfl
@[simp] theorem State.answerBadList_xp (i : Nat) (s : State) : (s.answerBadList i).xp = s.xp := rfl
@[simp] theorem State.answerBadList_stream (i : Nat) (s : State) : (s.answerBadList i).stream = s.stream := rfl
@[simp] theorem State.answerBadList_host_cmdstat (i : Nat) (s : State) :
    (s.answerBadList i).host.cmdstat = .badList := rfl
@[simp] theorem State.answerBadList_host_cmdIndex (i : Nat) (s : State) :
    (s.answerBadList i).host.cmdIndex = BitVec.ofNat 4 i := rfl
@[simp] theorem State.answerBadList_host_cmdarg (i : Nat) (s : State) :
    (s.answerBadList i).host.cmdarg = s.host.cmdarg := rfl
@[simp] theorem State.answerBadList_host_hoststat (i : Nat) (s : State) :
    (s.answerBadList i).host.hoststat = s.host.hoststat := rfl
@[simp] theorem State.answerBadList_host_events (i : Nat) (s : State) :
    (s.answerBadList i).host.events = s.host.events := rfl
@[simp] theorem State.answerBadList_host_evmask (i : Nat) (s : State) :
    (s.answerBadList i).host.evmask = s.host.evmask := rfl
@[simp] theorem State.answerBadList_host_results (i : Nat) (s : State) :
    (s.answerBadList i).host.results = s.host.results := rfl
@[simp] theorem State.answerBadList_host_slotSel (i : Nat) (s : State) :
    (s.answerBadList i).host.slotSel = s.host.slotSel := rfl
@[simp] theorem State.answerBadList_host_slotIx (i : Nat) (s : State) :
    (s.answerBadList i).host.slotIx = s.host.slotIx := rfl
@[simp] theorem State.answerBadList_host_resptr (i : Nat) (s : State) :
    (s.answerBadList i).host.resptr = s.host.resptr := rfl
@[simp] theorem State.answerBadList_host_capptr (i : Nat) (s : State) :
    (s.answerBadList i).host.capptr = s.host.capptr := rfl
@[simp] theorem State.answerBadList_host_seqIx (i : Nat) (s : State) :
    (s.answerBadList i).host.seqIx = s.host.seqIx := rfl
@[simp] theorem State.answerBadList_host_xpIx (i : Nat) (s : State) :
    (s.answerBadList i).host.xpIx = s.host.xpIx := rfl
@[simp] theorem State.answerBadList_host_busOut (i : Nat) (s : State) :
    (s.answerBadList i).host.busOut = s.host.busOut := rfl

/-! ## drive -/

@[simp] theorem State.drive_pending (b : Byte) (s : State) : (s.drive b).pending = s.pending := rfl
@[simp] theorem State.drive_pool (b : Byte) (s : State) : (s.drive b).pool = s.pool := rfl
@[simp] theorem State.drive_seq (b : Byte) (s : State) : (s.drive b).seq = s.seq := rfl
@[simp] theorem State.drive_wch (b : Byte) (s : State) : (s.drive b).wch = s.wch := rfl
@[simp] theorem State.drive_rch (b : Byte) (s : State) : (s.drive b).rch = s.rch := rfl
@[simp] theorem State.drive_capture (b : Byte) (s : State) : (s.drive b).capture = s.capture := rfl
@[simp] theorem State.drive_pos (b : Byte) (s : State) : (s.drive b).pos = s.pos := rfl
@[simp] theorem State.drive_xp (b : Byte) (s : State) : (s.drive b).xp = s.xp := rfl
@[simp] theorem State.drive_stream (b : Byte) (s : State) : (s.drive b).stream = s.stream := rfl
@[simp] theorem State.drive_host_cmdstat (b : Byte) (s : State) :
    (s.drive b).host.cmdstat = s.host.cmdstat := rfl
@[simp] theorem State.drive_host_cmdIndex (b : Byte) (s : State) :
    (s.drive b).host.cmdIndex = s.host.cmdIndex := rfl
@[simp] theorem State.drive_host_cmdarg (b : Byte) (s : State) :
    (s.drive b).host.cmdarg = s.host.cmdarg := rfl
@[simp] theorem State.drive_host_hoststat (b : Byte) (s : State) :
    (s.drive b).host.hoststat = s.host.hoststat := rfl
@[simp] theorem State.drive_host_events (b : Byte) (s : State) :
    (s.drive b).host.events = s.host.events := rfl
@[simp] theorem State.drive_host_evmask (b : Byte) (s : State) :
    (s.drive b).host.evmask = s.host.evmask := rfl
@[simp] theorem State.drive_host_results (b : Byte) (s : State) :
    (s.drive b).host.results = s.host.results := rfl
@[simp] theorem State.drive_host_slotSel (b : Byte) (s : State) :
    (s.drive b).host.slotSel = s.host.slotSel := rfl
@[simp] theorem State.drive_host_slotIx (b : Byte) (s : State) :
    (s.drive b).host.slotIx = s.host.slotIx := rfl
@[simp] theorem State.drive_host_resptr (b : Byte) (s : State) :
    (s.drive b).host.resptr = s.host.resptr := rfl
@[simp] theorem State.drive_host_capptr (b : Byte) (s : State) :
    (s.drive b).host.capptr = s.host.capptr := rfl
@[simp] theorem State.drive_host_seqIx (b : Byte) (s : State) :
    (s.drive b).host.seqIx = s.host.seqIx := rfl
@[simp] theorem State.drive_host_xpIx (b : Byte) (s : State) :
    (s.drive b).host.xpIx = s.host.xpIx := rfl
@[simp] theorem State.drive_host_busOut (b : Byte) (s : State) :
    (s.drive b).host.busOut = b := rfl

/-! ## hold -/

@[simp] theorem State.hold_pending (r : Option HeldRequest) (s : State) : (s.hold r).pending = s.pending := rfl
@[simp] theorem State.hold_host (r : Option HeldRequest) (s : State) : (s.hold r).host = s.host := rfl
@[simp] theorem State.hold_pool (r : Option HeldRequest) (s : State) : (s.hold r).pool = s.pool := rfl
@[simp] theorem State.hold_seq (r : Option HeldRequest) (s : State) : (s.hold r).seq = s.seq := rfl
@[simp] theorem State.hold_wch (r : Option HeldRequest) (s : State) : (s.hold r).wch = s.wch := rfl
@[simp] theorem State.hold_rch (r : Option HeldRequest) (s : State) : (s.hold r).rch = s.rch := rfl
@[simp] theorem State.hold_capture (r : Option HeldRequest) (s : State) : (s.hold r).capture = s.capture := rfl
@[simp] theorem State.hold_pos (r : Option HeldRequest) (s : State) : (s.hold r).pos = s.pos := rfl
@[simp] theorem State.hold_stream (r : Option HeldRequest) (s : State) : (s.hold r).stream = s.stream := rfl
@[simp] theorem State.hold_held (r : Option HeldRequest) (s : State) : (s.hold r).xp.held = r := rfl
@[simp] theorem State.hold_xp_motion (r : Option HeldRequest) (s : State) :
    (s.hold r).xp.motion = s.xp.motion := rfl
@[simp] theorem State.hold_xp_dir (r : Option HeldRequest) (s : State) :
    (s.hold r).xp.dir = s.xp.dir := rfl
@[simp] theorem State.hold_xp_levels (r : Option HeldRequest) (s : State) :
    (s.hold r).xp.levels = s.xp.levels := rfl
@[simp] theorem State.hold_xp_timing (r : Option HeldRequest) (s : State) :
    (s.hold r).xp.timing = s.xp.timing := rfl

/-! ## setDeferred -/

@[simp] theorem State.setDeferred_pending (r : List Deferred) (s : State) : (s.setDeferred r).pending = s.pending := rfl
@[simp] theorem State.setDeferred_host (r : List Deferred) (s : State) : (s.setDeferred r).host = s.host := rfl
@[simp] theorem State.setDeferred_pool (r : List Deferred) (s : State) : (s.setDeferred r).pool = s.pool := rfl
@[simp] theorem State.setDeferred_seq (r : List Deferred) (s : State) : (s.setDeferred r).seq = s.seq := rfl
@[simp] theorem State.setDeferred_wch (r : List Deferred) (s : State) : (s.setDeferred r).wch = s.wch := rfl
@[simp] theorem State.setDeferred_rch (r : List Deferred) (s : State) : (s.setDeferred r).rch = s.rch := rfl
@[simp] theorem State.setDeferred_capture (r : List Deferred) (s : State) : (s.setDeferred r).capture = s.capture := rfl
@[simp] theorem State.setDeferred_pos (r : List Deferred) (s : State) : (s.setDeferred r).pos = s.pos := rfl
@[simp] theorem State.setDeferred_stream (r : List Deferred) (s : State) : (s.setDeferred r).stream = s.stream := rfl
@[simp] theorem State.setDeferred_deferred (r : List Deferred) (s : State) : (s.setDeferred r).xp.deferred = r := rfl
@[simp] theorem State.setDeferred_xp_motion (r : List Deferred) (s : State) :
    (s.setDeferred r).xp.motion = s.xp.motion := rfl
@[simp] theorem State.setDeferred_xp_dir (r : List Deferred) (s : State) :
    (s.setDeferred r).xp.dir = s.xp.dir := rfl
@[simp] theorem State.setDeferred_xp_levels (r : List Deferred) (s : State) :
    (s.setDeferred r).xp.levels = s.xp.levels := rfl
@[simp] theorem State.setDeferred_xp_timing (r : List Deferred) (s : State) :
    (s.setDeferred r).xp.timing = s.xp.timing := rfl

/-! ## setUnloadInd -/

@[simp] theorem State.setUnloadInd_pending (r : Bool) (s : State) : (s.setUnloadInd r).pending = s.pending := rfl
@[simp] theorem State.setUnloadInd_host (r : Bool) (s : State) : (s.setUnloadInd r).host = s.host := rfl
@[simp] theorem State.setUnloadInd_pool (r : Bool) (s : State) : (s.setUnloadInd r).pool = s.pool := rfl
@[simp] theorem State.setUnloadInd_seq (r : Bool) (s : State) : (s.setUnloadInd r).seq = s.seq := rfl
@[simp] theorem State.setUnloadInd_wch (r : Bool) (s : State) : (s.setUnloadInd r).wch = s.wch := rfl
@[simp] theorem State.setUnloadInd_rch (r : Bool) (s : State) : (s.setUnloadInd r).rch = s.rch := rfl
@[simp] theorem State.setUnloadInd_capture (r : Bool) (s : State) : (s.setUnloadInd r).capture = s.capture := rfl
@[simp] theorem State.setUnloadInd_pos (r : Bool) (s : State) : (s.setUnloadInd r).pos = s.pos := rfl
@[simp] theorem State.setUnloadInd_stream (r : Bool) (s : State) : (s.setUnloadInd r).stream = s.stream := rfl
@[simp] theorem State.setUnloadInd_unloadInd (r : Bool) (s : State) : (s.setUnloadInd r).xp.unloadInd = r := rfl
@[simp] theorem State.setUnloadInd_xp_motion (r : Bool) (s : State) :
    (s.setUnloadInd r).xp.motion = s.xp.motion := rfl
@[simp] theorem State.setUnloadInd_xp_dir (r : Bool) (s : State) :
    (s.setUnloadInd r).xp.dir = s.xp.dir := rfl
@[simp] theorem State.setUnloadInd_xp_levels (r : Bool) (s : State) :
    (s.setUnloadInd r).xp.levels = s.xp.levels := rfl
@[simp] theorem State.setUnloadInd_xp_timing (r : Bool) (s : State) :
    (s.setUnloadInd r).xp.timing = s.xp.timing := rfl

/-! ## onPos -/

@[simp] theorem State.onPos_pending (f : Position → Position) (s : State) :
    (s.onPos f).pending = s.pending := rfl
@[simp] theorem State.onPos_host (f : Position → Position) (s : State) :
    (s.onPos f).host = s.host := rfl
@[simp] theorem State.onPos_pool (f : Position → Position) (s : State) :
    (s.onPos f).pool = s.pool := rfl
@[simp] theorem State.onPos_seq (f : Position → Position) (s : State) :
    (s.onPos f).seq = s.seq := rfl
@[simp] theorem State.onPos_wch (f : Position → Position) (s : State) :
    (s.onPos f).wch = s.wch := rfl
@[simp] theorem State.onPos_rch (f : Position → Position) (s : State) :
    (s.onPos f).rch = s.rch := rfl
@[simp] theorem State.onPos_capture (f : Position → Position) (s : State) :
    (s.onPos f).capture = s.capture := rfl
@[simp] theorem State.onPos_pos (f : Position → Position) (s : State) :
    (s.onPos f).pos = f s.pos := rfl
@[simp] theorem State.onPos_xp (f : Position → Position) (s : State) :
    (s.onPos f).xp = s.xp := rfl
@[simp] theorem State.onPos_stream (f : Position → Position) (s : State) :
    (s.onPos f).stream = s.stream := rfl

end Sys2Proof.Machine
end

