-- ==== Sys2Proof/Laws/Changes.lean ====
section
/-! SUPPORT. Every change that a command can make is one of the few kinds of change of one block's record
listed here. A law that each kind keeps is therefore kept by every command (`exec_changes` of Course). -/

namespace Sys2Proof.Machine

/-- The changes of the pool: the moves of a slot, an edit of a record's other fields, a byte appended, the
cursor and the counter, and the soft reset. -/
inductive PoolStep (p : Pool) : Pool → Prop where
  | edit (n : SlotNo) (f : SlotRecord → SlotRecord) : PoolStep p (p.edit n f)
  | append (n : SlotNo) (b : Byte) : PoolStep p (p.append n b)
  | grantFill (n : SlotNo) (src : Source) : PoolStep p (p.grantFill n src)
  | grantRead (n : SlotNo) : PoolStep p (p.grantRead n)
  | grantMark (n : SlotNo) : PoolStep p (p.grantMark n)
  | toFree (st : SlotState) (n : SlotNo) : PoolStep p (p.toFree st n)
  | queueFilled (n : SlotNo) : PoolStep p (p.queueFilled n)
  | requeue (n : SlotNo) : PoolStep p (p.requeue n)
  | headReturn (n : SlotNo) : PoolStep p (p.headReturn n)
  | takeHead : PoolStep p p.takeHead
  | hold (n : SlotNo) : PoolStep p (p.hold n)
  | toReadTail (st : SlotState) (n : SlotNo) : PoolStep p (p.toReadTail st n)
  | replaceTail (n : SlotNo) : PoolStep p (p.replaceTail n)
  | releaseHead : PoolStep p p.releaseHead
  | drain (d : Nat) : PoolStep p { p with drain := d }
  | tag (t : Byte) : PoolStep p { p with tag := t }
  | softReset : PoolStep p p.softReset

/-- The changes of the position tracker. -/
inductive PosStep (p : Position) : Position → Prop where
  | lost : PosStep p p.lost
  | bomReached : PosStep p p.bomReached
  | edge (z : Zone) : PosStep p (p.edge z)
  | forward (written : Bool) (k : BlockKind) : PosStep p (Position.forwardReport written k p)
  | reverse (k : BlockKind) : PosStep p (Position.reverseReport k p)
  | erasingBegun : PosStep p p.erasingBegun
  | cartridgeGone : PosStep p p.cartridgeGone

/-- The changes of the write channel that keep the gates to their conditions: a gate that is on was on
before, in the same phase or another that allows it, or turns on under the conditions of R97. -/
def GateStep (s : State) (w : WriteChannel) : Prop :=
  (w.wgate = true → (s.wch.wgate = true ∧ w.phase = s.wch.phase) ∨
    (s.mayGate = true ∧ w.phase = .block)) ∧
  (w.egate = true → (s.wch.egate = true ∧ (w.phase = s.wch.phase ∨ w.phase ≠ .idle)) ∨
    (s.mayGate = true ∧ w.phase ≠ .idle)) ∧
  (w.run = true → w.egate = true ∨ (s.wch.run = true ∧ (s.wch.egate = true → w.egate = true)))

/-- The changes of the transport controller: the timing table keeps its entries or takes one clamped, and
where a gate is on the transport stays RUNNING forward with WPERMIT present. -/
def MotionStep (s : State) (x : Transport) : Prop :=
  (x.timing = s.xp.timing ∨ ∃ i b, x.timing = s.xp.timing.set i (timingClamp i b)) ∧
  ((s.wch.wgate = false ∧ s.wch.egate = false) ∨
    ((s.xp.runningForward = true → x.runningForward = true) ∧
      (s.xp.levels.wpermit = true → x.levels.wpermit = true)))

/-- The changes of the stream port: each setting keeps its value or takes one of its range, the
accumulator keeps its value, returns to 0 or takes an interval, and the partial word stays short. -/
inductive StreamStep (p : StreamPort) : StreamPort → Prop where
  | set (q : StreamPort) (hr : q.reserve = p.reserve ∨ q.reserve ≤ 3)
      (hl : q.strlen = p.strlen ∨ (2 ≤ q.strlen ∧ q.strlen ≤ 1024))
      (hd : q.divisor = p.divisor ∨ (16 ≤ q.divisor ∧ q.divisor ≤ 4095))
      (hf : q.fraction = p.fraction ∨ q.fraction ≤ 15) (ha : q.acc = p.acc ∨ q.acc = 0)
      (hb : q.bits = p.bits ∨ q.bits.length < 16) : StreamStep p q
  | interval : StreamStep p p.interval

/-- The states that changes of these kinds lead to from a state. The queue of waiting commands is never
touched, and list memory changes by the write of one of its 48 bytes only. -/
inductive Changes (a : State) : State → Prop where
  | refl : Changes a a
  | host {s : State} {h : HostPort} (hs : Changes a s) (hr : h.results <:+ s.host.results) :
      Changes a (s.setHost h)
  | join {s : State} {h : HostPort} {r : Result} (hs : Changes a s) (room : s.resultRoom = true)
      (hr : h.results = s.host.results ++ [r]) : Changes a (s.setHost h)
  | pool {s : State} {p : Pool} (hs : Changes a s) (hp : PoolStep s.pool p) : Changes a (s.setPool p)
  | seq {s : State} {q : Sequencer} (hs : Changes a s) (hq : q.listMem = s.seq.listMem) :
      Changes a (s.setSeq q)
  | list {s : State} {k : Nat} (hs : Changes a s) (hk : k < 48) (b : Byte) :
      Changes a (s.setSeq { s.seq with listMem := s.seq.listMem.write k b })
  | wch {s : State} {w : WriteChannel} (hs : Changes a s) (hw : GateStep s w) : Changes a (s.setWch w)
  | rch {s : State} (r : ReadChannel) (hs : Changes a s) : Changes a (s.setRch r)
  | capture {s : State} (c : Option Capture) (hs : Changes a s) : Changes a (s.setCapture c)
  | pos {s : State} {p : Position} (hs : Changes a s) (hp : PosStep s.pos p) : Changes a (s.setPos p)
  | xp {s : State} {x : Transport} (hs : Changes a s) (hx : MotionStep s x) : Changes a (s.setXp x)
  | stream {s : State} {p : StreamPort} (hs : Changes a s) (hp : StreamStep s.stream p) :
      Changes a (s.setStream p)
  | pinReset {s : State} (lv : Levels) (hs : Changes a s) :
      Changes a { State.reset with pending := s.pending, xp := .reset lv }

namespace Changes

variable {a s t : State}

/-- The first part of a pair that an operation answered. -/
theorem first {α : Type} {x : State × α} {r : α} (h : Changes a x.1) (e : x = (t, r)) : Changes a t := by
  subst e; exact h

/-! ## The host port -/

@[simp] theorem raise (e : Event) (h : Changes a s) : Changes a (s.raise e) :=
  h.host (List.suffix_refl _)

@[simp] theorem stick (f : HostFlag) (h : Changes a s) : Changes a (s.stick f) :=
  h.host (List.suffix_refl _)

@[simp] theorem stickIf (c : Bool) (f : HostFlag) (h : Changes a s) : Changes a (s.stickIf c f) := by
  unfold State.stickIf; split <;> simp [h]

@[simp] theorem answer (x : Answer) (h : Changes a s) : Changes a (s.answer x) :=
  h.host (List.suffix_refl _)

@[simp] theorem answerBadList (i : Nat) (h : Changes a s) : Changes a (s.answerBadList i) :=
  h.host (List.suffix_refl _)

@[simp] theorem drive (b : Byte) (h : Changes a s) : Changes a (s.drive b) :=
  h.host (List.suffix_refl _)

@[simp] theorem touch (h : Changes a s) : Changes a s.touch := h.host (List.suffix_refl _)

/-! ## The tracker, the read channel's small changes -/

@[simp] theorem lost (h : Changes a s) : Changes a (s.onPos .lost) := h.pos .lost

@[simp] theorem bomReached (h : Changes a s) : Changes a (s.onPos .bomReached) := h.pos .bomReached

@[simp] theorem edge (z : Zone) (h : Changes a s) : Changes a (s.onPos (.edge z)) := h.pos (.edge z)

@[simp] theorem forwardReport (w : Bool) (k : BlockKind) (h : Changes a s) :
    Changes a (s.onPos (Position.forwardReport w k)) := h.pos (.forward w k)

@[simp] theorem detected (d : Dir) (k : BlockKind) (h : Changes a s) :
    Changes a (s.onPos (Position.detected d k)) := by
  cases d
  · exact h.pos (.forward false k)
  · exact h.pos (.reverse k)

@[simp] theorem erasingBegun (h : Changes a s) : Changes a (s.onPos .erasingBegun) :=
  h.pos .erasingBegun

@[simp] theorem cartridgeGone (h : Changes a s) : Changes a (s.onPos .cartridgeGone) :=
  h.pos .cartridgeGone

@[simp] theorem forgetTags (h : Changes a s) : Changes a s.forgetTags := h.rch _

@[simp] theorem clearStraddle (h : Changes a s) : Changes a s.clearStraddle := h.rch _

@[simp] theorem setAsm (x : Assembly) (h : Changes a s) : Changes a (s.setAsm x) := h.rch _

@[simp] theorem dropTarget (h : Changes a s) : Changes a s.dropTarget := h.rch _

@[simp] theorem takeFramePeriod (h : Changes a s) : Changes a s.takeFramePeriod := h.rch _

@[simp] theorem setRch (r : ReadChannel) (h : Changes a s) : Changes a (s.setRch r) := h.rch r

@[simp] theorem setCapture (c : Option Capture) (h : Changes a s) : Changes a (s.setCapture c) :=
  h.capture c

/-! ## The pool -/

@[simp] theorem editSlot (n : SlotNo) (f : SlotRecord → SlotRecord) (h : Changes a s) :
    Changes a (s.editSlot n f) := h.pool (.edit n f)

@[simp] theorem append (n : SlotNo) (b : Byte) (h : Changes a s) :
    Changes a (s.setPool (s.pool.append n b)) := h.pool (.append n b)

@[simp] theorem grantFill (n : SlotNo) (src : Source) (h : Changes a s) :
    Changes a (s.setPool (s.pool.grantFill n src)) := h.pool (.grantFill n src)

@[simp] theorem grantRead (n : SlotNo) (h : Changes a s) :
    Changes a (s.setPool (s.pool.grantRead n)) := h.pool (.grantRead n)

@[simp] theorem grantMark (n : SlotNo) (h : Changes a s) :
    Changes a (s.setPool (s.pool.grantMark n)) := h.pool (.grantMark n)

@[simp] theorem toFree (st : SlotState) (n : SlotNo) (h : Changes a s) :
    Changes a (s.setPool (s.pool.toFree st n)) := h.pool (.toFree st n)

@[simp] theorem queueFilled (n : SlotNo) (h : Changes a s) :
    Changes a (s.setPool (s.pool.queueFilled n)) := h.pool (.queueFilled n)

@[simp] theorem requeue (n : SlotNo) (h : Changes a s) :
    Changes a (s.setPool (s.pool.requeue n)) := h.pool (.requeue n)

@[simp] theorem headReturn (n : SlotNo) (h : Changes a s) :
    Changes a (s.setPool (s.pool.headReturn n)) := h.pool (.headReturn n)

@[simp] theorem takeHead (h : Changes a s) : Changes a (s.setPool s.pool.takeHead) := h.pool .takeHead

@[simp] theorem poolHold (n : SlotNo) (h : Changes a s) :
    Changes a (s.setPool (s.pool.hold n)) := h.pool (.hold n)

@[simp] theorem toReadTail (st : SlotState) (n : SlotNo) (h : Changes a s) :
    Changes a (s.setPool (s.pool.toReadTail st n)) := h.pool (.toReadTail st n)

@[simp] theorem replaceTail (n : SlotNo) (h : Changes a s) :
    Changes a (s.setPool (s.pool.replaceTail n)) := h.pool (.replaceTail n)

@[simp] theorem releaseHead (h : Changes a s) : Changes a (s.setPool s.pool.releaseHead) :=
  h.pool .releaseHead

@[simp] theorem setDrain (d : Nat) (h : Changes a s) :
    Changes a (s.setPool { s.pool with drain := d }) := h.pool (.drain d)

@[simp] theorem setTag (t : Byte) (h : Changes a s) :
    Changes a (s.setPool { s.pool with tag := t }) := h.pool (.tag t)

/-! ## The stream port -/

/-- A change of the port's state, flags, edges and mode. -/
theorem streamFlags {p : StreamPort} (h : Changes a s) (hr : p.reserve = s.stream.reserve)
    (hl : p.strlen = s.stream.strlen) (hd : p.divisor = s.stream.divisor)
    (hf : p.fraction = s.stream.fraction) (ha : p.acc = s.stream.acc ∨ p.acc = 0)
    (hb : p.bits = s.stream.bits ∨ p.bits = []) : Changes a (s.setStream p) :=
  h.stream (.set p (.inl hr) (.inl hl) (.inl hd) (.inl hf) ha
    (hb.imp_right (fun e => by simp [e])))

@[simp] theorem streamClaim (h : Changes a s) : Changes a s.streamClaim := by
  unfold State.streamClaim
  split
  · exact h.streamFlags rfl rfl rfl rfl (.inl rfl) (.inl rfl)
  · split
    · exact (h.grantFill _ _).streamFlags rfl rfl rfl rfl (.inl rfl) (.inl rfl)
    · exact h.streamFlags rfl rfl rfl rfl (.inl rfl) (.inl rfl)

@[simp] theorem retryStreamClaim (h : Changes a s) : Changes a s.retryStreamClaim := by
  unfold State.retryStreamClaim; split <;> simp [h]

@[simp] theorem settleFree (n : Nat) (h : Changes a s) : Changes a (s.settleFree n) := by
  unfold State.settleFree; dsimp only; split <;> simp [h]

@[simp] theorem freeActive (n : SlotNo) (h : Changes a s) : Changes a (s.freeActive n) := by
  simp [State.freeActive, h]

@[simp] theorem joinReadTail (st : SlotState) (n : SlotNo) (h : Changes a s) :
    Changes a (s.joinReadTail st n) := by
  unfold State.joinReadTail; dsimp only; split <;> simp [h]

@[simp] theorem deliver (b : Bool) (n : SlotNo) (h : Changes a s) : Changes a (s.deliver b n) := by
  unfold State.deliver
  split
  · simp [h]
  · exact ((h.editSlot _ _).replaceTail _).settleFree _
  · simp [h]

@[simp] theorem deliverCut (n : SlotNo) (h : Changes a s) : Changes a (s.deliverCut n) := by
  simp [State.deliverCut, h]

/-! ## Motion -/

/-- A change of the transport that moves nothing. -/
theorem atMotion {x : Transport} (h : Changes a s) (ht : x.timing = s.xp.timing)
    (hm : x.motion = s.xp.motion) (hd : x.dir = s.xp.dir) (hl : x.levels = s.xp.levels) :
    Changes a (s.setXp x) :=
  h.xp ⟨.inl ht, .inr (by simp [Transport.runningForward, hm, hd, hl])⟩

@[simp] theorem dropGates (h : Changes a s) : Changes a s.dropGates :=
  h.wch ⟨nofun, nofun, nofun⟩

@[simp] theorem channelIdle (h : Changes a s) : Changes a s.channelIdle :=
  h.wch ⟨nofun, nofun, nofun⟩

@[simp] theorem enterMotion (m : Motion) (d : Dir) (f : Bool) (h : Changes a s) :
    Changes a (s.enterMotion m d f) := by
  unfold State.enterMotion
  split
  · rename_i hm
    exact h.xp ⟨.inl rfl, .inr ⟨fun _ => by simp [Transport.runningForward, hm], fun e => e⟩⟩
  · exact h.dropGates.xp ⟨.inl rfl, .inl ⟨rfl, rfl⟩⟩

@[simp] theorem hold (r : Option HeldRequest) (h : Changes a s) : Changes a (s.hold r) :=
  h.atMotion rfl rfl rfl rfl

@[simp] theorem setUnloadInd (b : Bool) (h : Changes a s) : Changes a (s.setUnloadInd b) :=
  h.atMotion rfl rfl rfl rfl

@[simp] theorem setDeferred (l : List Deferred) (h : Changes a s) : Changes a (s.setDeferred l) :=
  h.atMotion rfl rfl rfl rfl

@[simp] theorem startMotion (d : Dir) (h : Changes a s) : Changes a (s.startMotion d) := by
  have h' := (h.enterMotion .starting d false).atMotion
    (x := { (s.enterMotion .starting d false).xp with
      rampTimer := some (s.enterMotion .starting d false).xp.timing.startRamp, held := none })
    rfl rfl rfl rfl
  unfold State.startMotion
  dsimp only
  split
  · exact h'.forgetTags
  · exact h'

@[simp] theorem stopMotion (h : Changes a s) : Changes a s.stopMotion :=
  (h.enterMotion _ _ _).atMotion rfl rfl rfl rfl

@[simp] theorem startRewind (h : Changes a s) : Changes a s.startRewind := by
  have h' := h.enterMotion .rewinding .reverse false
  exact (((h'.atMotion (x := { (s.enterMotion .rewinding .reverse false).xp with
    rewindTimer := some (s.enterMotion .rewinding .reverse false).xp.timing.rewindLimit, held := none })
    rfl rfl rfl rfl).lost).forgetTags).clearStraddle

@[simp] theorem beginEject (h : Changes a s) : Changes a s.beginEject := by
  have h' := h.enterMotion .unloading s.xp.dir false
  exact ((h'.atMotion (x := { (s.enterMotion .unloading s.xp.dir false).xp with
    unloadInd := false
    rewindTimer := some (s.enterMotion .unloading s.xp.dir false).xp.timing.rewindLimit })
    rfl rfl rfl rfl).forgetTags).clearStraddle

@[simp] theorem releaseLines (m : Motion) (h : Changes a s) : Changes a (s.releaseLines m) :=
  ((h.enterMotion _ _ _).setUnloadInd _).hold _

@[simp] theorem takeStop (h : Changes a s) : Changes a s.takeStop := by
  unfold State.takeStop
  split
  · exact h.stopMotion.hold _
  · exact h.stopMotion.hold _
  · exact (h.stopMotion.hold _).setUnloadInd _
  · exact (h.hold _).setUnloadInd _
  · exact ((h.enterMotion _ _ _).hold _).setUnloadInd _
  all_goals exact h

@[simp] theorem defer (r : Deferred) (h : Changes a s) : Changes a (s.defer r) := by
  unfold State.defer; split <;> simp [h]

@[simp] theorem requestStop (h : Changes a s) : Changes a s.requestStop := by
  unfold State.requestStop; split <;> simp [h]

@[simp] theorem beginLinger (h : Changes a s) : Changes a s.beginLinger := by
  unfold State.beginLinger
  split
  · exact h
  · split
    · simp [h]
    · exact h.atMotion rfl rfl rfl rfl

@[simp] theorem takeIdle (h : Changes a s) : Changes a s.takeIdle := by
  unfold State.takeIdle
  split
  · simp [h]
  · exact h.atMotion rfl rfl rfl rfl
  · exact h

@[simp] theorem idleReport (h : Changes a s) : Changes a s.idleReport := by
  unfold State.idleReport; split <;> simp [h]

@[simp] theorem stopAndHold (r : HeldRequest) (h : Changes a s) : Changes a (s.stopAndHold r) := by
  simp [State.stopAndHold, h]

@[simp] theorem takeDir (d : Dir) (h : Changes a s) : Changes a (s.takeDir d).1 := by
  unfold State.takeDir
  split
  · simp [h]
  · split
    · exact h.atMotion rfl rfl rfl rfl
    · simp [h]
  · split
    · exact h.atMotion rfl rfl rfl rfl
    · split <;> simp [h]
  all_goals simp [h]

@[simp] theorem requestDir (d : Dir) (h : Changes a s) : Changes a (s.requestDir d).1 := by
  unfold State.requestDir; split <;> split <;> simp [h]

@[simp] theorem rewindAtRest (h : Changes a s) : Changes a s.rewindAtRest.1 := by
  unfold State.rewindAtRest
  split
  · dsimp only; split <;> simp [h]
  · simp [h]

@[simp] theorem unloadAtRest (h : Changes a s) : Changes a s.unloadAtRest.1 := by
  unfold State.unloadAtRest
  dsimp only
  split
  · exact (h.setUnloadInd _).bomReached.beginEject
  · exact (h.setUnloadInd _).startRewind

theorem requestLong (r : HeldRequest) (q : Deferred) {go : State → State × Reply} (h : Changes a s)
    (hg : Changes a (go s).1) : Changes a (s.requestLong r q go).1 := by
  unfold State.requestLong
  split
  · exact hg
  · split <;> simp [h, hg]
  · simp [h]
  · split <;> simp [h]
  all_goals simp [h]

@[simp] theorem requestRewind (h : Changes a s) : Changes a s.requestRewind.1 :=
  h.requestLong _ _ h.rewindAtRest

@[simp] theorem requestUnload (h : Changes a s) : Changes a s.requestUnload.1 :=
  h.requestLong _ _ h.unloadAtRest

@[simp] theorem request (r : HeldRequest) (h : Changes a s) : Changes a (s.request r).1 := by
  cases r <;> simp [State.request, h]

@[simp] theorem takeOneDeferred (r : Deferred) (h : Changes a s) :
    Changes a (s.takeOneDeferred r).1 := by
  cases r <;> simp [State.takeOneDeferred, h]

/-- A fold of changes. -/
theorem fold {β : Type} {f : State → β → State} (hf : ∀ s b, Changes a s → Changes a (f s b))
    (l : List β) (h : Changes a s) : Changes a (l.foldl f s) := by
  induction l generalizing s with
  | nil => exact h
  | cons b l ih => exact ih (hf s b h)

@[simp] theorem spendDeferred (h : Changes a s) : Changes a s.spendDeferred :=
  fold (fun _ r h => h.takeOneDeferred r) _ (h.setDeferred _)

@[simp] theorem stopBlank (h : Changes a s) : Changes a s.stopBlank := h.atMotion rfl rfl rfl rfl

@[simp] theorem startBlank (h : Changes a s) : Changes a s.startBlank := by
  unfold State.startBlank
  split
  · exact h.atMotion rfl rfl rfl rfl
  · simp [h]

end Changes

end Sys2Proof.Machine
end

