-- ==== Sys2Proof/Laws/Channels.lean ====
section
/-! SUPPORT. The operations of the two channels make changes of the listed kinds. -/

namespace Sys2Proof.Machine

namespace Changes

variable {a s t : State}

/-! ## The read channel -/

@[simp] theorem resetClaim (n : SlotNo) (h : Changes a s) : Changes a (s.resetClaim n) :=
  h.editSlot _ _

@[simp] theorem captureRead (n : SlotNo) (i : Nat) (r : Row × Row) (c : Option CaptureClass)
    (h : Changes a s) : Changes a (s.captureRead n i r c) := h.capture _

@[simp] theorem captureFrame (w : WinRow) (h : Changes a s) : Changes a (s.captureFrame w) := by
  unfold State.captureFrame
  split
  · exact h
  · split <;> simp [h]

@[simp] theorem commitFrame (w : WinRow) (h : Changes a s) : Changes a (s.commitFrame w) := by
  unfold State.commitFrame
  dsimp only
  split
  · simp [h]
  · split
    · simp [h]
    · exact ((h.captureFrame w).setAsm _).append _ _

@[simp] theorem commitCheck (w : WinRow) (h : Changes a s) : Changes a (s.commitCheck w) := by
  simp [State.commitCheck, h]

@[simp] theorem bodyRow (x y : Row) (h : Changes a s) : Changes a (s.bodyRow x y) := by
  have commit : ∀ (l : List WinRow) {s}, Changes a s → Changes a (l.foldl (fun s w => s.commitFrame w) s) :=
    fun l _ h => fold (fun _ w h => h.commitFrame w) l h
  unfold State.bodyRow
  split
  · exact h
  · dsimp only
    split
    · exact h.setRch _
    · split
      · exact commit _ ((h.setRch _).setRch _)
      · exact ((commit _ (commit _ ((h.setRch _).setRch _))).setRch _).setAsm _

@[simp] theorem settleWindow (h : Changes a s) : Changes a s.settleWindow.1 := by
  unfold State.settleWindow
  dsimp only
  split
  · exact fold (fun _ w h => h.commitCheck w) _ h
  · exact fold (fun _ w h => h.commitFrame w) _ h

@[simp] theorem captureClass (n : SlotNo) (c : ReadClass) (l : List WinRow) (h : Changes a s) :
    Changes a (s.captureClass n c l) := by
  unfold State.captureClass
  dsimp only
  split
  · exact h
  · split
    · split <;> simp [h]
    · split
      · split
        · simp [h]
        · split <;> simp [h]
      · exact h

@[simp] theorem judgeData (h : Changes a s) : Changes a s.judgeData.1 := by
  unfold State.judgeData
  rcases e : s.settleWindow with ⟨s', rows⟩
  have h' := h.settleWindow.first e
  dsimp only
  split
  · exact h'.setRch _
  · exact ((h'.setRch _).editSlot _ _).captureClass _ _ _

@[simp] theorem judgeMark (h : Changes a s) : Changes a s.judgeMark.1 := h.settleWindow.setRch _

@[simp] theorem endNoise (h : Changes a s) : Changes a s.endNoise := by
  unfold State.endNoise
  dsimp only
  split <;> simp [h]

@[simp] theorem detectBare (how : BurstEnd) (k : BlockKind) (d : Dir) (h : Changes a s) :
    Changes a (s.detectBare how k d).1 := by
  unfold State.detectBare
  dsimp only
  repeat' split
  all_goals simp [h]

@[simp] theorem judgeBurst (how : BurstEnd) (k : BlockKind) (d : Dir) (h : Changes a s) :
    Changes a (s.judgeBurst how k d).1 := by
  unfold State.judgeBurst
  split
  · cases k <;> simp [h]
  · simp [h]

@[simp] theorem endBurst (how : BurstEnd) (h : Changes a s) : Changes a (s.endBurst how).1 := by
  unfold State.endBurst
  dsimp only
  split
  · simp [h]
  · rename_i k _
    rcases e : s.judgeBurst how k s.xp.dir with ⟨s', f⟩
    have h' := (h.judgeBurst how k s.xp.dir).first e
    dsimp only
    split
    · exact ((h'.setRch _).detected _ _).startBlank
    · exact (h'.setRch _).detected _ _

@[simp] theorem recognised (h : Changes a s) : Changes a s.recognised := by
  unfold State.recognised
  split
  · simp [h]
  · dsimp only
    split
    · simp [h]
    · split
      · exact ((h.setRch _).resetClaim _).setRch _
      · simp [h]

@[simp] theorem burstRow (r : Row × Row) (h : Changes a s) : Changes a (s.burstRow r) := by
  unfold State.burstRow
  split
  · exact h
  · exact h
  · dsimp only
    split <;> simp [h]
  · dsimp only
    split <;> split <;> simp [h]

@[simp] theorem beginBurst (h : Changes a s) : Changes a s.beginBurst := h.setRch _

@[simp] theorem keepSilentRows (h : Changes a s) : Changes a s.keepSilentRows :=
  fold (fun _ r h => h.burstRow r) _ (h.setRch _)

@[simp] theorem countSilentRows (h : Changes a s) : Changes a s.countSilentRows :=
  h.dropTarget.keepSilentRows.setRch _

@[simp] theorem cutBurst (h : Changes a s) : Changes a s.cutBurst.1 := by
  unfold State.cutBurst; split <;> simp [h]

@[simp] theorem endBurstAtWrite (h : Changes a s) : Changes a s.endBurstAtWrite := by
  unfold State.endBurstAtWrite; split <;> simp [h]

@[simp] theorem takeRow (x y : Row) (h : Changes a s) : Changes a (s.takeRow x y).1 := by
  unfold State.takeRow
  split
  · split
    · dsimp only; split <;> simp [h]
    · exact h
  · dsimp only; split <;> simp [h]

/-! ## The write channel -/

/-- A change of the write channel that leaves its phase, its gates and the run indication. -/
theorem atGates {w : WriteChannel} (h : Changes a s) (hp : w.phase = s.wch.phase)
    (hw : w.wgate = s.wch.wgate) (he : w.egate = s.wch.egate) (hr : w.run = s.wch.run) :
    Changes a (s.setWch w) :=
  h.wch ⟨fun e => .inl ⟨hw ▸ e, hp⟩, fun e => .inl ⟨he ▸ e, .inl hp⟩,
    fun e => .inr ⟨hr ▸ e, fun e' => he ▸ e'⟩⟩

/-- A change of the write channel to a phase other than IDLE with the write gate off. -/
theorem writeOff {w : WriteChannel} (h : Changes a s) (hp : w.phase ≠ .idle) (hw : w.wgate = false)
    (he : w.egate = true → s.wch.egate = true)
    (hr : w.run = true → w.egate = true ∨ (s.wch.run = true ∧ w.egate = s.wch.egate)) :
    Changes a (s.setWch w) :=
  h.wch ⟨fun e => (by simp [hw] at e), fun e => .inl ⟨he e, .inr hp⟩,
    fun e => (hr e).imp_right (fun x => ⟨x.1, fun e' => x.2.trans e'⟩)⟩

@[simp] theorem holdWork (x : WHeld) (h : Changes a s) : Changes a (s.holdWork x) :=
  h.atGates rfl rfl rfl rfl

theorem eraseOn (h : Changes a s) (hp : s.wch.phase ≠ .idle) : Changes a s.eraseOn := by
  unfold State.eraseOn
  split
  · rename_i hm
    exact h.wch ⟨fun e => .inl ⟨e, rfl⟩, fun _ => .inr ⟨hm, hp⟩, fun _ => .inl rfl⟩
  · exact h

@[simp] theorem takeMarkTag (u : WUnit) (h : Changes a s) : Changes a (s.takeMarkTag u).1 := by
  unfold State.takeMarkTag; split <;> simp [h]

@[simp] theorem markRewritten (u : WUnit) (h : Changes a s) : Changes a (s.markRewritten u) := by
  unfold State.markRewritten
  split
  · split <;> simp [h]
  · exact h

theorem takeMarkTag_mayGate (u : WUnit) (s : State) : (s.takeMarkTag u).1.mayGate = s.mayGate := by
  unfold State.takeMarkTag; split <;> rfl

theorem takeMarkTag_wch (u : WUnit) (s : State) : (s.takeMarkTag u).1.wch = s.wch := by
  unfold State.takeMarkTag; split <;> rfl

theorem markRewritten_mayGate (u : WUnit) (s : State) : (s.markRewritten u).mayGate = s.mayGate := by
  unfold State.markRewritten
  split
  · split <;> rfl
  · rfl

@[simp] theorem openBlock (h : Changes a s) : Changes a s.openBlock := by
  unfold State.openBlock
  split
  · exact h
  · rename_i u _
    split
    · rename_i hm
      rcases e : s.takeMarkTag u with ⟨s', u'⟩
      have h' := ((h.takeMarkTag u).first e).markRewritten u'
      have hg : (s'.markRewritten u').mayGate = true := by
        rw [markRewritten_mayGate, ← hm, ← takeMarkTag_mayGate u s, e]
      exact h'.wch ⟨fun _ => .inr ⟨hg, rfl⟩, fun _ => .inr ⟨hg, nofun⟩,
        fun e => .inr ⟨e, fun e' => e'⟩⟩
    · exact h

@[simp] theorem freshGap (u : WUnit) (h : Changes a s) : Changes a (s.freshGap u) :=
  (h.endBurstAtWrite.wch (by exact ⟨nofun, nofun, nofun⟩)).eraseOn (by exact nofun)

@[simp] theorem continueGap (u : WUnit) (h : Changes a s) : Changes a (s.continueGap u) := by
  have h' := h.writeOff (w := { s.wch with
    phase := .gap, unit := some u, held := none, checkWritten := false, wgate := false,
    verify := none }) nofun rfl (fun e => e) (fun e => .inr ⟨e, rfl⟩)
  unfold State.continueGap
  dsimp only
  split
  · exact h'.openBlock
  · exact h'

@[simp] theorem gapOrWait (u : WUnit) (h : Changes a s) : Changes a (s.gapOrWait u) := by
  unfold State.gapOrWait; split <;> simp [h]

@[simp] theorem placeUnit (u : WUnit) (h : Changes a s) : Changes a (s.placeUnit u) := by
  unfold State.placeUnit
  split
  · simp [h]
  · split <;> simp [h]
  all_goals simp [h]

@[simp] theorem startErasing (h : Changes a s) : Changes a s.startErasing := by
  have h' := h.writeOff (w := { s.wch with
    phase := .erasing, unit := none, held := none, checkWritten := false, wgate := false,
    gapTimer := .stopped, eraseTimer := some s.xp.timing.eraseLength, watchTimer := none,
    deadline := none, verify := none }) nofun rfl (fun e => e) (fun e => .inr ⟨e, rfl⟩)
  exact (h'.eraseOn nofun).erasingBegun

@[simp] theorem eraseOrWait (h : Changes a s) : Changes a s.eraseOrWait := by
  unfold State.eraseOrWait; split <;> simp [h]

@[simp] theorem placeErase (h : Changes a s) : Changes a s.placeErase := by
  unfold State.placeErase
  split
  · simp [h]
  · split <;> simp [h]
  all_goals simp [h]

@[simp] theorem beginWriteUnit (u : WUnit) (h : Changes a s) : Changes a (s.beginWriteUnit u).1 := by
  unfold State.beginWriteUnit
  rcases e : s.takeFramePeriod.requestDir .forward with ⟨s', r⟩
  have h' := (h.takeFramePeriod.requestDir .forward).first e
  dsimp only
  rw [e]
  dsimp only
  split
  · exact h'
  · exact h'.placeUnit _

@[simp] theorem beginEraseUnit (h : Changes a s) : Changes a s.beginEraseUnit.1 := by
  unfold State.beginEraseUnit
  rcases e : s.takeFramePeriod.requestDir .forward with ⟨s', r⟩
  have h' := (h.takeFramePeriod.requestDir .forward).first e
  dsimp only
  rw [e]
  dsimp only
  split
  · exact h'
  · exact h'.placeErase

@[simp] theorem settleChannel (h : Changes a s) : Changes a s.settleChannel := by
  unfold State.settleChannel
  split
  · split <;> simp [h]
  · split <;> simp [h]
  · exact h

@[simp] theorem blockOnTape (u : WUnit) (h : Changes a s) : Changes a (s.blockOnTape u) :=
  (h.atGates (by rfl) (by rfl) (by rfl) (by rfl)).forwardReport _ _

@[simp] theorem enterAfter (u : WUnit) (h : Changes a s) : Changes a (s.enterAfter u) :=
  h.writeOff nofun rfl (fun e => e) (fun e => .inl e)

@[simp] theorem takeOverAfter (h : Changes a s) : Changes a s.takeOverAfter := by
  unfold State.takeOverAfter
  repeat' split
  all_goals simp [h]

@[simp] theorem captureVerify (i : Nat) (x y : Row) (h : Changes a s) :
    Changes a (s.captureVerify i x y) := by
  unfold State.captureVerify
  split
  · split
    · exact h
    · exact (h.setCapture _).atGates (by rfl) (by rfl) (by rfl) (by rfl)
  · exact h

@[simp] theorem compareRow (x y : Row) (h : Changes a s) : Changes a (s.compareRow x y) := by
  unfold State.compareRow
  split
  · exact h
  · dsimp only
    split
    · exact (h.captureVerify _ _ _).atGates rfl rfl rfl rfl
    · exact h.atGates rfl rfl rfl rfl

@[simp] theorem verifyRow (x y : Row) (h : Changes a s) : Changes a (s.verifyRow x y).1 := by
  unfold State.verifyRow
  split
  · exact h
  · split
    · exact h
    · exact h
    · split
      · exact h
      · dsimp only
        refine compareRow _ _ ?_
        exact h.atGates rfl rfl rfl rfl
    · exact (h.compareRow _ _).atGates rfl rfl rfl rfl

@[simp] theorem endWatch (h : Changes a s) : Changes a s.endWatch := by
  unfold State.endWatch
  split
  · exact h
  · dsimp only
    split
    · exact (h.captureVerify _ _ _).atGates rfl rfl rfl rfl
    · exact h.atGates rfl rfl rfl rfl

@[simp] theorem recordClass (u : WUnit) (v : Verify) (h : Changes a s) :
    Changes a (s.recordClass u v) := by
  unfold State.recordClass
  dsimp only
  refine atGates ?_ rfl rfl rfl rfl
  split <;> split <;> simp [h]

end Changes

end Sys2Proof.Machine
end

