-- ==== Sys2Proof/Laws/Sequencing.lean ====
section
/-! SUPPORT. The operations of the sequencer, of a detection and of the drive make changes of the listed
kinds. -/

namespace Sys2Proof.Machine

namespace Changes

variable {a s t : State}

/-! ## The sequencer's record -/

@[simp] theorem setSeqState (x : SeqState) (h : Changes a s) : Changes a (s.setSeqState x) := h.seq rfl

@[simp] theorem setStopInd (b : Bool) (h : Changes a s) : Changes a (s.setStopInd b) := h.seq rfl

@[simp] theorem record (f : EntryRecord → EntryRecord) (h : Changes a s) : Changes a (s.record f) :=
  h.seq rfl

@[simp] theorem setWork (w : Work) (h : Changes a s) : Changes a (s.setWork w) :=
  (h.seq (by rfl)).startBlank

@[simp] theorem setEpisode (e : Option Episode) (h : Changes a s) : Changes a (s.setEpisode e) :=
  h.seq rfl

@[simp] theorem setRecCount (n : Nat) (h : Changes a s) : Changes a (s.setRecCount n) := h.seq rfl

@[simp] theorem setPending (r : Option Result) (h : Changes a s) : Changes a (s.setPending r) :=
  h.seq rfl

theorem joinResult (r : Result) (h : Changes a s) (room : s.resultRoom = true) :
    Changes a (s.joinResult r) := (h.join room (by rfl)).raise _

@[simp] theorem stallResult (r : Result) (h : Changes a s) : Changes a (s.stallResult r) :=
  (h.setPending _).raise _

/-! ## Lists and entries -/

@[simp] theorem listEnd (c : EndCause) (h : Changes a s) : Changes a (s.listEnd c) := by
  have h' : Changes a (s.setSeq { s.seq with state := .idle, episode := none, endCause := c }) :=
    h.seq rfl
  unfold State.listEnd
  dsimp only
  split
  · exact ((h'.setWork _).raise _).requestStop
  · exact (h'.setWork _).raise _

@[simp] theorem goOn (o : EntryOutcome) (h : Changes a s) : Changes a (s.goOn o).1 := by
  unfold State.goOn
  dsimp only
  repeat' split
  all_goals first | exact h.listEnd _ | exact h.seq rfl

@[simp] theorem settleEntry (o : EntryOutcome) (h : Changes a s) : Changes a (s.settleEntry o).1 := by
  have h' := (h.setEpisode none).setWork .none
  unfold State.settleEntry
  dsimp only
  split
  · rename_i room
    exact (h'.joinResult _ room).goOn _
  · exact ((h'.setSeqState _).stallResult _).idleReport

@[simp] theorem dropUnit (h : Changes a s) : Changes a s.dropUnit := by
  unfold State.dropUnit; split <;> simp [h]

@[simp] theorem afterRequest (r : Reply) (h : Changes a s) : Changes a (s.afterRequest r).1 := by
  unfold State.afterRequest; split <;> simp [h]

@[simp] theorem beginWrite (h : Changes a s) : Changes a s.beginWrite.1 := by
  unfold State.beginWrite
  split
  · simp [h]
  · exact ((h.takeHead.setWork _).beginWriteUnit _).afterRequest _

@[simp] theorem beginMark (h : Changes a s) : Changes a s.beginMark.1 :=
  ((h.setWork _).beginWriteUnit _).afterRequest _

@[simp] theorem readGoesOn (n : SlotNo) (h : Changes a s) : Changes a (s.readGoesOn n).1 :=
  ((h.takeFramePeriod.setWork (.read n)).requestDir .forward).afterRequest _

@[simp] theorem grantClaim (n : SlotNo) (h : Changes a s) : Changes a (s.grantClaim n) :=
  (h.grantRead n).dropTarget

@[simp] theorem awaitClaim (h : Changes a s) : Changes a s.awaitClaim.1 := by
  have h' := (h.takeFramePeriod.setWork .waitSlot).requestDir .forward
  unfold State.awaitClaim
  dsimp only
  split <;> simp [h']

@[simp] theorem beginRead (h : Changes a s) : Changes a s.beginRead.1 := by
  unfold State.beginRead; split <;> simp [h]

@[simp] theorem beginPass (w : Work) (d : Dir) (h : Changes a s) : Changes a (s.beginPass w d).1 :=
  ((h.takeFramePeriod.setWork _).requestDir _).afterRequest _

@[simp] theorem beginErase (h : Changes a s) : Changes a s.beginErase.1 :=
  ((h.setWork _).beginEraseUnit).afterRequest _

@[simp] theorem beginRewind (h : Changes a s) : Changes a s.beginRewind.1 := by
  unfold State.beginRewind
  split
  · dsimp only
    split <;> simp [h]
  · exact ((h.setWork _).requestRewind).afterRequest _

@[simp] theorem beginUnload (h : Changes a s) : Changes a s.beginUnload.1 :=
  ((h.setWork _).requestUnload).afterRequest _

@[simp] theorem beginUnit (h : Changes a s) : Changes a s.beginUnit.1 := by
  unfold State.beginUnit
  dsimp only
  split <;> simp [h]

@[simp] theorem unitOver (h : Changes a s) : Changes a s.unitOver.1 := by
  unfold State.unitOver
  dsimp only
  split
  · simp [h]
  · split
    · simp [h]
    · split <;> simp [h]

@[simp] theorem unitDropped (h : Changes a s) : Changes a s.unitDropped.1 := by
  have h' := (h.record EntryRecord.drop).setWork .none
  unfold State.unitDropped
  dsimp only
  split
  · exact h'
  · exact h'.beginUnit

@[simp] theorem startEntry (h : Changes a s) : Changes a s.startEntry.1 := by
  have h' := (h.setSeqState .running).record (fun _ => .clear)
  unfold State.startEntry
  dsimp only
  split
  · exact h'
  · exact h'.beginUnit

@[simp] theorem runEntries (k : Nat) (h : Changes a s) : Changes a (s.runEntries k) := by
  induction k generalizing s with
  | zero => exact h
  | succ k ih =>
    unfold State.runEntries
    split
    · rename_i e
      exact h.startEntry.first e
    · rename_i e
      have h' := h.startEntry.first e
      split
      · rename_i e'
        exact (h'.settleEntry _).first e'
      · rename_i e'
        exact ih ((h'.settleEntry _).first e')

@[simp] theorem nextEntry {r : State × Bool} (h : Changes a r.1) : Changes a (State.nextEntry r) := by
  obtain ⟨s, b⟩ := r
  cases b
  · exact h
  · exact runEntries _ h

@[simp] theorem endEntry (o : EntryOutcome) (h : Changes a s) : Changes a (s.endEntry o) :=
  nextEntry (h.settleEntry o)

@[simp] theorem carryOut {x : Turn} (h : Changes a x.1) : Changes a (State.carryOut x) := by
  obtain ⟨s, o⟩ := x
  cases o
  · exact h
  · exact endEntry _ h

/-! ## Episodes -/

@[simp] theorem closeEpisode (h : Changes a s) : Changes a s.closeEpisode :=
  (h.setEpisode none).setWork .none

@[simp] theorem episodeFate (e : Episode) (h : Changes a s) : Changes a (s.episodeFate e) := by
  unfold State.episodeFate; split <;> simp [h]

@[simp] theorem damageUnclassed (n : SlotNo) (h : Changes a s) : Changes a (s.damageUnclassed n) :=
  h.editSlot _ _

@[simp] theorem skipFate (e : Episode) (h : Changes a s) : Changes a (s.skipFate e).1 := by
  unfold State.skipFate
  split
  · simp [h]
  · dsimp only
    split
    · simp [h]
    · exact ((h.damageUnclassed _).deliver _ _).record _
  · simp [h]

@[simp] theorem skip (h : Changes a s) : Changes a s.skip.1 := by
  unfold State.skip
  split
  · exact h
  · rename_i e _
    split
    · rename_i q
      exact ((h.skipFate e).first q).closeEpisode.unitDropped
    · rename_i q
      exact ((h.skipFate e).first q).closeEpisode.unitOver

@[simp] theorem skipThen (o : EntryOutcome) (h : Changes a s) : Changes a (s.skipThen o).1 := by
  unfold State.skipThen
  split
  · exact h
  · rename_i e _
    split
    · rename_i q
      exact (((h.skipFate e).first q).record _).closeEpisode
    · rename_i q
      exact ((h.skipFate e).first q).closeEpisode

@[simp] theorem freeze (h : Changes a s) : Changes a s.freeze.1 :=
  (((((h.setEpisode _).setSeqState .frozen).setWork .none).dropTarget).requestStop).raise .frozenEntered

@[simp] theorem exhaust (h : Changes a s) : Changes a s.exhaust.1 := by
  unfold State.exhaust; split <;> simp [h]

@[simp] theorem episodeTerminal (o : EntryOutcome) (h : Changes a s) :
    Changes a (s.episodeTerminal o).1 := by
  unfold State.episodeTerminal
  split
  · exact h
  · exact (h.episodeFate _).dropTarget.closeEpisode

@[simp] theorem recoverWrite (e : Episode) (m : Bool) (h : Changes a s) :
    Changes a (s.recoverWrite e m).1 := by
  unfold State.recoverWrite
  refine unitOver (closeEpisode (record _ ?_))
  split <;> simp [h]

@[simp] theorem recoverRead (n : SlotNo) (m : Bool) (h : Changes a s) :
    Changes a (s.recoverRead n m).1 := by
  unfold State.recoverRead
  dsimp only
  split
  · exact (h.deliver _ _).closeEpisode.unitDropped
  · exact ((h.deliver _ _).record _).closeEpisode.unitOver

@[simp] theorem afterStepRequest (r : Reply) (h : Changes a s) : Changes a (s.afterStepRequest r).1 := by
  unfold State.afterStepRequest; split <;> simp [h]

@[simp] theorem reattempt (h : Changes a s) : Changes a s.reattempt.1 := by
  unfold State.reattempt
  split
  · exact h
  · have h' := h.setSeqState .recovery
    dsimp only
    split
    · exact h'.episodeTerminal _
    · split
      · exact ((h'.setWork _).beginWriteUnit _).afterStepRequest _
      · exact ((h'.dropTarget.takeFramePeriod.setWork _).requestDir _).afterStepRequest _
      · exact ((h'.setWork _).beginWriteUnit _).afterStepRequest _

@[simp] theorem countAttempt (b : Bool) (h : Changes a s) : Changes a (s.countAttempt b) :=
  (h.setEpisode _).record _

@[simp] theorem retryStep (h : Changes a s) : Changes a s.retryStep.1 := by
  unfold State.retryStep
  split
  · exact h
  · split <;> simp [h]

@[simp] theorem recoveryErase (h : Changes a s) : Changes a s.recoveryErase.1 :=
  ((h.setWork _).beginEraseUnit).afterStepRequest _

@[simp] theorem enterRecovery (i : Fin 4) (h : Changes a s) : Changes a (s.enterRecovery i) :=
  (((h.setEpisode _).setSeqState _).setRecCount _).setWork _

@[simp] theorem recoverFrom (k i : Nat) (h : Changes a s) : Changes a (s.recoverFrom k i).1 := by
  induction k generalizing i s with
  | zero => exact h.exhaust
  | succ k ih =>
    unfold State.recoverFrom
    split
    · rename_i hi
      split
      · have h' := h.enterRecovery ⟨i, hi⟩
        dsimp only
        split
        · split
          · exact h'.episodeTerminal _
          · exact (((h'.takeFramePeriod).setWork _).requestDir _).afterStepRequest _
        · split
          · exact h'.episodeTerminal _
          · have h'' := ((h'.takeFramePeriod).setWork (.space .reverse)).requestDir .reverse
            split
            · rename_i e
              exact ih _ (h''.first e)
            · rename_i e
              exact (h''.first e).afterStepRequest _
        · split
          · exact h'.episodeTerminal _
          · exact h'.recoveryErase
        · exact h'.retryStep
        · exact h'.skip
        · exact h'.freeze
        · exact ih _ h'
      · exact h.exhaust
    · exact h.exhaust

@[simp] theorem recover (i : Nat) (h : Changes a s) : Changes a (s.recover i).1 := h.recoverFrom 5 i

@[simp] theorem nextRecovery (h : Changes a s) : Changes a s.nextRecovery.1 := by
  unfold State.nextRecovery; split <;> simp [h]

@[simp] theorem openEpisode (k : UnitKind) (n : Option SlotNo) (x : Option Byte) (l : AttemptClass)
    (h : Changes a s) : Changes a (s.openEpisode k n x l).1 := by
  unfold State.openEpisode
  dsimp only
  split
  · exact (((h.setEpisode _).setWork _).setSeqState _).exhaust
  · exact (((h.setEpisode _).setWork _).setSeqState _).recover _

@[simp] theorem reattemptFailed (h : Changes a s) : Changes a s.reattemptFailed.1 := by
  unfold State.reattemptFailed
  dsimp only
  split <;> simp [h]

@[simp] theorem setLast (c : AttemptClass) (h : Changes a s) : Changes a (s.setLast c) :=
  h.setEpisode _

@[simp] theorem writeReport (u : WUnit) (c : WriteClass) (h : Changes a s) :
    Changes a (s.writeReport u c).1 := by
  unfold State.writeReport
  split
  · split
    · exact h.openEpisode _ _ _ _
    · refine unitOver (record _ ?_)
      split <;> simp [h]
  · split
    · dsimp only
      split
      · exact h.setLast _
      · split <;> simp [h]
    · exact h

/-! ## What ends the running entry -/

@[simp] theorem fate (h : Changes a s) : Changes a s.fate := by
  unfold State.fate
  refine dropTarget ?_
  split <;> simp [h]

@[simp] theorem terminalChange (o : EntryOutcome) (h : Changes a s) :
    Changes a (s.terminalChange o) := by
  unfold State.terminalChange; split <;> simp [h]

@[simp] theorem abortingCheck (h : Changes a s) : Changes a s.abortingCheck := by
  unfold State.abortingCheck; split <;> simp [h]

@[simp] theorem abortMotion (h : Changes a s) : Changes a s.abortMotion :=
  h.channelIdle.spendDeferred.takeStop

@[simp] theorem abortEntry (h : Changes a s) : Changes a s.abortEntry := by
  have h' : Changes a ((s.abortMotion.fate.setSeq
      { s.abortMotion.fate.seq with episode := none, stopInd := false, state := .aborting }).setWork
        .none) := (h.abortMotion.fate.seq (by rfl)).setWork .none
  unfold State.abortEntry
  dsimp only
  split
  · rename_i room
    exact h'.joinResult _ room
  · exact h'.stallResult _

theorem postPending (r : Result) (h : Changes a s) (room : s.resultRoom = true) :
    Changes a (s.postPending r) := by
  have h' := (h.setPending none).joinResult r room
  unfold State.postPending
  dsimp only
  split
  · exact nextEntry (h'.goOn _)
  · exact h'.abortingCheck

@[simp] theorem giveUpWrite (h : Changes a s) : Changes a s.giveUpWrite := by
  unfold State.giveUpWrite
  split
  · exact h.atGates rfl rfl rfl rfl
  · exact h.channelIdle

@[simp] theorem stopUnit (h : Changes a s) : Changes a s.stopUnit := by
  unfold State.stopUnit
  split
  · simp [h]
  · simp [h]
  · split
    · simp [h]
    · exact ((h.headReturn _).giveUpWrite).endEntry _
  · split
    · simp [h]
    · exact h.giveUpWrite.endEntry _
  · split
    · simp [h]
    · exact ((h.freeActive _).dropTarget).endEntry _
  · split <;> simp [h]
  · split <;> simp [h]
  all_goals simp [h]

/-! ## Detections -/

@[simp] theorem readBlock (n : SlotNo) (c : ReadClass) (h : Changes a s) :
    Changes a (s.readBlock n c).1 := by
  unfold State.readBlock
  split
  · exact h.openEpisode _ _ _ _
  · dsimp only
    split
    · simp [h]
    · exact ((h.deliver _ _).record _).unitOver

@[simp] theorem readMark (n : SlotNo) (h : Changes a s) : Changes a (s.readMark n).1 :=
  (h.freeActive n).dropTarget

@[simp] theorem giveUpPass (h : Changes a s) : Changes a s.giveUpPass.1 := by
  unfold State.giveUpPass
  split <;> exact h

@[simp] theorem readCut (n : SlotNo) (h : Changes a s) : Changes a (s.readCut n).1 := by
  have h' := ((h.freeActive n).dropTarget).setWork .none
  unfold State.readCut
  dsimp only
  split
  · exact h'
  · exact h'.beginUnit

@[simp] theorem handUnit (f : Found) (h : Changes a s) : Changes a (s.handUnit f).1 := by
  unfold State.handUnit
  repeat' split
  all_goals simp [h]

@[simp] theorem recoveryPassed (h : Changes a s) : Changes a s.recoveryPassed.1 := by
  unfold State.recoveryPassed; dsimp only; split <;> simp [h]

@[simp] theorem reread (n : SlotNo) (c : ReadClass) (h : Changes a s) : Changes a (s.reread n c).1 := by
  unfold State.reread; split <;> simp [h]

@[simp] theorem handRecovery (f : Found) (h : Changes a s) : Changes a (s.handRecovery f).1 := by
  unfold State.handRecovery
  repeat' split
  all_goals simp [h]

@[simp] theorem handOn (f : Found) (h : Changes a s) : Changes a (s.handOn f) := by
  unfold State.handOn
  repeat' split
  all_goals simp [h]

@[simp] theorem burstOver (f : Option Found) (h : Changes a s) : Changes a (s.burstOver f) := by
  cases f <;> simp [State.burstOver, h]

@[simp] theorem blankMet (h : Changes a s) : Changes a s.blankMet := by
  unfold State.blankMet
  split
  · split
    · exact ((h.freeActive _).dropTarget).endEntry _
    all_goals simp [h]
  · split
    · split
      · exact carryOut (h.dropTarget.skipThen _)
      · exact carryOut h.nextRecovery
      · exact h
    · exact h

@[simp] theorem bomMet (h : Changes a s) : Changes a s.bomMet := by
  unfold State.bomMet
  repeat' split
  all_goals simp [h]

@[simp] theorem serveHead (h : Changes a s) : Changes a s.serveHead := by
  unfold State.serveHead; split <;> simp [h]

@[simp] theorem serveClaim (h : Changes a s) : Changes a s.serveClaim := by
  unfold State.serveClaim
  split
  · split
    · exact carryOut ((h.grantClaim _).readGoesOn _)
    · exact h
  · exact h

@[simp] theorem serveFreed (n : Nat) (h : Changes a s) : Changes a (s.serveFreed n) := by
  unfold State.serveFreed
  split
  · split
    · exact carryOut (((h.grantClaim _).settleFree n).readGoesOn _)
    · simp [h]
  · simp [h]

@[simp] theorem requestRefused (o : EntryOutcome) (h : Changes a s) :
    Changes a (s.requestRefused o) := by
  unfold State.requestRefused
  repeat' split
  all_goals simp [h]

@[simp] theorem heldAnswer (r : HeldRequest) (x : Reply) (h : Changes a s) :
    Changes a (s.heldAnswer r x) := by
  unfold State.heldAnswer
  dsimp only
  repeat' split
  all_goals simp [h]

@[simp] theorem answerHeld (h : Changes a s) : Changes a s.answerHeld := by
  unfold State.answerHeld
  split
  · exact h
  · exact ((h.hold none).request _).heldAnswer _ _

@[simp] theorem serveDeferred (r : Deferred) (h : Changes a s) : Changes a (s.serveDeferred r) := by
  have h' := h.takeOneDeferred r
  unfold State.serveDeferred
  dsimp only
  split <;> simp [h']

@[simp] theorem takeDeferred (h : Changes a s) : Changes a s.takeDeferred := by
  unfold State.takeDeferred
  split
  · exact h
  · exact fold (fun _ r h => h.serveDeferred r) _ (h.setDeferred _)

@[simp] theorem askForward (h : Changes a s) : Changes a s.askForward := by
  have h' := h.requestDir .forward
  unfold State.askForward
  split
  · exact h'.heldAnswer _ _
  · exact h

@[simp] theorem blockLeft (h : Changes a s) : Changes a s.blockLeft := by
  unfold State.blockLeft; split <;> simp [h]

/-! ## The tape and the drive -/

@[simp] theorem postambleDone (u : WUnit) (h : Changes a s) : Changes a (s.postambleDone u) := by
  have h' := (h.enterAfter u).blockLeft
  unfold State.postambleDone
  dsimp only
  split
  · exact h'
  · exact h'.takeOverAfter.settleChannel

@[simp] theorem classifyVerify (h : Changes a s) : Changes a s.classifyVerify := by
  unfold State.classifyVerify
  split
  · exact (carryOut ((h.recordClass _ _).writeReport _ _)).settleChannel
  · exact h

@[simp] theorem watchRow (x y : Row) (h : Changes a s) : Changes a (s.watchRow x y) := by
  unfold State.watchRow
  split
  · rename_i e
    exact ((h.verifyRow x y).first e).endWatch.classifyVerify
  · rename_i e
    exact (h.verifyRow x y).first e

@[simp] theorem readRow (x y : Row) (h : Changes a s) : Changes a (s.readRow x y) := by
  unfold State.readRow
  rcases e : s.takeRow x y with ⟨s', f⟩
  have h' := (h.takeRow x y).first e
  dsimp only
  split
  · exact h'.burstOver _
  · exact h'

@[simp] theorem eraseDone (h : Changes a s) : Changes a s.eraseDone.1 := by
  unfold State.eraseDone
  split
  · split
    · simp [h]
    · split
      · dsimp only
        split <;> simp [h]
      · exact h
  · exact h

@[simp] theorem beginHeldWrite (h : Changes a s) : Changes a s.beginHeldWrite := by
  unfold State.beginHeldWrite
  repeat' split
  all_goals simp [h]

@[simp] theorem beginHeldErase (h : Changes a s) : Changes a s.beginHeldErase := by
  unfold State.beginHeldErase
  repeat' split
  all_goals simp [h]

/-- A change of the sampled levels that keeps WPERMIT. -/
theorem onLevels {f : Levels → Levels} (h : Changes a s)
    (hf : (f s.xp.levels).wpermit = s.xp.levels.wpermit) : Changes a (s.onLevels f) :=
  h.xp ⟨.inl rfl, .inr ⟨fun e => e, fun e => hf.trans e⟩⟩

@[simp] theorem releaseAll (m : Motion) (h : Changes a s) : Changes a (s.releaseAll m) :=
  h.cutBurst.channelIdle.spendDeferred.releaseLines m

@[simp] theorem rewindReached (h : Changes a s) : Changes a s.rewindReached := by
  unfold State.rewindReached
  dsimp only
  split
  · exact (h.bomReached.stopMotion).endEntry _
  · exact h.bomReached.stopMotion

@[simp] theorem ewPassed (h : Changes a s) : Changes a s.ewPassed := by
  unfold State.ewPassed; split <;> simp [h]

@[simp] theorem reportRunning (h : Changes a s) : Changes a s.reportRunning :=
  h.startBlank.beginHeldWrite.beginHeldErase

@[simp] theorem afterRest (h : Changes a s) : Changes a s.afterRest := by
  unfold State.afterRest
  repeat' split
  all_goals simp [h]

end Changes

end Sys2Proof.Machine
end

