-- ==== Sys2Proof/Laws/Course.lean ====
section
/-! SUPPORT. The host's accesses, the stream port, the resets, and so every command, make changes of the
listed kinds; and every command answers a next state. -/

namespace Sys2Proof.Machine

namespace Changes

variable {a s t : State}

/-! ## The host port -/

@[simp] theorem clearEvents (hi : Bool) (b : Byte) (h : Changes a s) : Changes a (s.clearEvents hi b) :=
  h.host (List.suffix_refl _)

@[simp] theorem storeMask (hi : Bool) (b : Byte) (h : Changes a s) : Changes a (s.storeMask hi b) :=
  h.host (List.suffix_refl _)

@[simp] theorem clearHoststat (b : Byte) (h : Changes a s) : Changes a (s.clearHoststat b) :=
  h.host (List.suffix_refl _)

@[simp] theorem storeCmdarg (b : Byte) (h : Changes a s) : Changes a (s.storeCmdarg b) :=
  h.host (List.suffix_refl _)

@[simp] theorem readFillcnt (h : Changes a s) : Changes a s.readFillcnt :=
  (h.host (by exact List.suffix_refl _)).drive _

@[simp] theorem readDraincnt (h : Changes a s) : Changes a s.readDraincnt :=
  (h.host (by exact List.suffix_refl _)).drive _

@[simp] theorem readPos (h : Changes a s) : Changes a s.readPos :=
  (h.host (by exact List.suffix_refl _)).drive _

/-- A change of the host port that leaves the result queue. -/
theorem atResults {x : HostPort} (h : Changes a s) (hr : x.results = s.host.results) :
    Changes a (s.setHost x) := h.host (hr ▸ List.suffix_refl _)

@[simp] theorem readSeqstat (h : Changes a s) : Changes a s.readSeqstat := by
  unfold State.readSeqstat
  dsimp only
  refine drive _ (atResults ?_ rfl)
  split
  · exact atResults (h.atResults rfl) rfl
  · exact h.atResults rfl

@[simp] theorem readXpstat (h : Changes a s) : Changes a s.readXpstat := by
  unfold State.readXpstat
  dsimp only
  refine drive _ (atResults ?_ rfl)
  split
  · exact atResults (h.atResults rfl) rfl
  · exact h.atResults rfl

@[simp] theorem storeSlotptr (b : Byte) (h : Changes a s) : Changes a (s.storeSlotptr b) :=
  (h.atResults (by rfl)).stickIf _ _

@[simp] theorem latchSlot (n : SlotNo) (k : Nat) (h : Changes a s) : Changes a (s.latchSlot n k) := by
  unfold State.latchSlot
  split
  · exact h.atResults rfl
  · exact h

@[simp] theorem readSlotrec (h : Changes a s) : Changes a s.readSlotrec := by
  unfold State.readSlotrec
  dsimp only
  split
  · exact ((h.latchSlot _ _).atResults (by rfl)).drive _
  · exact (h.atResults (by rfl)).drive _

@[simp] theorem storeResptr (b : Byte) (h : Changes a s) : Changes a (s.storeResptr b) :=
  (h.atResults (by rfl)).stickIf _ _

@[simp] theorem latchResult (r : Result) (k : Nat) (h : Changes a s) : Changes a (s.latchResult r k) := by
  unfold State.latchResult
  split
  · exact h.atResults rfl
  · exact h.atResults rfl
  · exact h

@[simp] theorem readResdata (h : Changes a s) : Changes a s.readResdata := by
  unfold State.readResdata
  split
  · simp [h]
  · refine drive _ ?_
    refine host (h.latchResult _ _) ?_
    unfold State.latchResult
    split <;> exact List.suffix_refl _

@[simp] theorem storeCapptr (b : Byte) (h : Changes a s) : Changes a (s.storeCapptr b) :=
  (h.atResults (by rfl)).stickIf _ _

@[simp] theorem readCapdata (h : Changes a s) : Changes a s.readCapdata := by
  unfold State.readCapdata
  dsimp only
  refine drive _ ?_
  split
  · exact atResults (h.atResults rfl) rfl
  · exact h.atResults rfl

@[simp] theorem servePending (h : Changes a s) : Changes a s.servePending := by
  unfold State.servePending
  split
  · split
    · rename_i room
      exact h.postPending _ room
    · exact h
  · exact h

@[simp] theorem advanceResult (h : Changes a s) : Changes a s.advanceResult := by
  unfold State.advanceResult
  split
  · simp [h]
  · rename_i r rest e
    refine servePending (answer _ (h.host ?_))
    rw [e]
    exact List.suffix_cons r rest

/-! ## The pool's commands -/

@[simp] theorem claim (h : Changes a s) : Changes a s.claim := by
  unfold State.claim
  repeat' split
  all_goals simp [h]

@[simp] theorem queueFill (h : Changes a s) : Changes a s.queueFill := by
  unfold State.queueFill
  split
  · simp [h]
  · split
    · simp [h]
    · exact ((h.queueFilled _).answer _).serveHead

@[simp] theorem queueMark (h : Changes a s) : Changes a s.queueMark := by
  unfold State.queueMark
  split
  · simp [h]
  · exact ((h.grantMark _).answer _).serveHead

@[simp] theorem cancelFill (h : Changes a s) : Changes a s.cancelFill := by
  unfold State.cancelFill
  split
  · simp [h]
  · exact ((h.toFree _ _).answer _).serveFreed _

@[simp] theorem writeData (b : Byte) (h : Changes a s) : Changes a (s.writeData b) := by
  unfold State.writeData
  repeat' split
  all_goals simp [h]

@[simp] theorem readData (h : Changes a s) : Changes a s.readData := by
  unfold State.readData
  repeat' split
  all_goals simp [h]

@[simp] theorem release (h : Changes a s) : Changes a s.release := by
  unfold State.release
  split
  · simp [h]
  · exact (h.releaseHead.answer _).serveFreed _

@[simp] theorem requeueHeld (h : Changes a s) : Changes a s.requeueHeld := by
  unfold State.requeueHeld
  split
  · simp [h]
  · exact ((h.requeue _).answer _).serveHead

@[simp] theorem discardHeld (h : Changes a s) : Changes a s.discardHeld := by
  unfold State.discardHeld
  split
  · simp [h]
  · exact ((h.toFree _ _).answer _).serveFreed _

@[simp] theorem deliverHeld (h : Changes a s) : Changes a s.deliverHeld := by
  unfold State.deliverHeld; split <;> simp [h]

@[simp] theorem storeTag (b : Byte) (h : Changes a s) : Changes a (s.storeTag b) := by
  unfold State.storeTag; split <;> simp [h]

/-! ## The stream port -/

/-- A new partial word of fewer than sixteen bits. -/
theorem setBits {l : List Bool} (h : Changes a s) (hl : l.length < 16) : Changes a (s.setBits l) :=
  h.stream (.set _ (.inl rfl) (.inl rfl) (.inl rfl) (.inl rfl) (.inl rfl) (.inr hl))

@[simp] theorem discontinue (h : Changes a s) : Changes a s.discontinue :=
  h.streamFlags rfl rfl rfl rfl (.inl rfl) (.inl rfl)

@[simp] theorem queueStream (n : SlotNo) (h : Changes a s) : Changes a (s.queueStream n) :=
  ((h.editSlot n _).queueFilled n).streamFlags (by rfl) (by rfl) (by rfl) (by rfl) (by exact .inl rfl)
    (by exact .inl rfl)

@[simp] theorem storeWord (l : List Bool) (h : Changes a s) : Changes a (s.storeWord l) := by
  unfold State.storeWord
  split
  · exact h
  · rename_i n _
    have h' : Changes a (s.setPool ((s.pool.append n (bitsByte (l.take 8))).append n
        (bitsByte (l.drop 8)))) := (h.append n (bitsByte (l.take 8))).append n (bitsByte (l.drop 8))
    dsimp only
    split
    · exact h'
    · exact (h'.queueStream n).serveHead.streamClaim

@[simp] theorem loseWord (h : Changes a s) : Changes a s.loseWord := by
  unfold State.loseWord
  dsimp only
  split
  · simp [h]
  · exact (h.discontinue.streamFlags (by rfl) (by rfl) (by rfl) (by rfl) (by exact .inl rfl)
      (by exact .inl rfl)).raise _

@[simp] theorem wordDone (l : List Bool) (h : Changes a s) : Changes a (s.wordDone l) := by
  have h' := h.setBits (l := []) (by decide)
  unfold State.wordDone
  dsimp only
  split <;> simp [h']

@[simp] theorem addBit (b : Bool) (h : Changes a s) : Changes a (s.addBit b) := by
  unfold State.addBit
  dsimp only
  split
  · rename_i hl
    exact h.setBits hl
  · exact h.wordDone _

@[simp] theorem frameError (b : Bool) (h : Changes a s) : Changes a (s.frameError b) :=
  (h.discontinue.raise _).setBits (by simp)

@[simp] theorem slaveEdge (f b : Bool) (h : Changes a s) : Changes a (s.slaveEdge f b) := by
  unfold State.slaveEdge
  split
  · split
    · exact h.setBits (by simp)
    · exact h.frameError b
  · split <;> simp [h]

@[simp] theorem masterEdge (b : Bool) (h : Changes a s) : Changes a (s.masterEdge b) := by
  unfold State.masterEdge
  dsimp only
  split
  · exact h
  · have h' : Changes a (s.setStream { s.stream with edges := s.stream.edges + 1 }) :=
      h.streamFlags rfl rfl rfl rfl (.inl rfl) (.inl rfl)
    split
    · exact h'.setBits (by simp)
    · exact h'.addBit b

@[simp] theorem interval (h : Changes a s) : Changes a (s.setStream s.stream.interval) :=
  h.stream .interval

@[simp] theorem streamOn (h : Changes a s) : Changes a s.streamOn := by
  unfold State.streamOn
  split
  · simp [h]
  · split
    · simp [h]
    · have h' : Changes a (((s.answer .accepted).setStream { (s.answer .accepted).stream with
          bits := [], discontinuity := false, lossNoted := false, acc := 0 }).streamClaim) :=
        ((h.answer _).streamFlags (by rfl) (by rfl) (by rfl) (by rfl) (by exact .inr rfl)
          (by exact .inr rfl)).streamClaim
      dsimp only
      split
      · exact h'.interval
      · exact h'

@[simp] theorem portOff (h : Changes a s) : Changes a s.portOff :=
  h.streamFlags rfl rfl rfl rfl (.inl rfl) (.inr rfl)

@[simp] theorem streamOff (h : Changes a s) : Changes a s.streamOff := by
  have h' := h.answer .accepted
  unfold State.streamOff
  dsimp only
  split
  · exact h'
  · split
    · exact h'.portOff
    · split
      · exact ((h'.portOff).toFree _ _).serveFreed _
      · exact ((h'.queueStream _).portOff).serveHead

theorem storeSetting {f : StreamPort → StreamPort} (c : Bool) (h : Changes a s)
    (hf : StreamStep s.stream (f s.stream)) : Changes a (s.storeSetting f c) := by
  unfold State.storeSetting
  split
  · exact ((h.stream hf).stickIf _ _).answer _
  · simp [h]

@[simp] theorem storeStrctl (b : Byte) (h : Changes a s) : Changes a (s.storeStrctl b) := by
  unfold State.storeStrctl
  dsimp only
  refine h.storeSetting _ ?_
  exact .set _ (.inr (Nat.min_le_left _ _)) (.inl rfl) (.inl rfl) (.inl rfl) (.inl rfl)
    (.inl rfl)

theorem clampTo_range {lo hi v : Nat} (h : lo ≤ hi) : lo ≤ clampTo lo hi v ∧ clampTo lo hi v ≤ hi := by
  unfold clampTo; omega

@[simp] theorem storeStrlen (b : Byte) (h : Changes a s) : Changes a (s.storeStrlen b) := by
  unfold State.storeStrlen
  dsimp only
  refine h.storeSetting _ ?_
  exact .set _ (.inl rfl) (.inr (clampTo_range (by decide))) (.inl rfl) (.inl rfl)
    (.inl rfl) (.inl rfl)

@[simp] theorem storeDivisor (b : Byte) (h : Changes a s) : Changes a (s.storeDivisor b) := by
  unfold State.storeDivisor
  dsimp only
  refine h.storeSetting _ ?_
  exact .set _ (.inl rfl) (.inl rfl) (.inr (clampTo_range (by decide))) (.inl rfl)
    (.inl rfl) (.inl rfl)

@[simp] theorem storeFraction (b : Byte) (h : Changes a s) : Changes a (s.storeFraction b) := by
  unfold State.storeFraction
  refine h.storeSetting _ ?_
  exact .set _ (.inl rfl) (.inl rfl) (.inl rfl) (.inr (Nat.min_le_left _ _)) (.inl rfl)
    (.inl rfl)

/-! ## Lists, timing and the sequencer's commands -/

@[simp] theorem storeListptr (b : Byte) (h : Changes a s) : Changes a (s.storeListptr b) :=
  (h.seq (by rfl)).stickIf _ _

@[simp] theorem advanceListptr (h : Changes a s) : Changes a s.advanceListptr := h.seq rfl

@[simp] theorem readListdata (h : Changes a s) : Changes a s.readListdata := h.advanceListptr.drive _

@[simp] theorem storeListdata (b : Byte) (h : Changes a s) : Changes a (s.storeListdata b) := by
  unfold State.storeListdata
  split
  · exact (h.list s.seq.listptr.isLt b).advanceListptr
  · simp [h]

@[simp] theorem holdLow (r : HoldReg) (b : Byte) (h : Changes a s) : Changes a (s.holdLow r b) := by
  cases r <;> exact h.atResults rfl

@[simp] theorem storeSeqctl (b : Byte) (h : Changes a s) : Changes a (s.storeSeqctl b) := by
  unfold State.storeSeqctl
  split
  · exact (h.seq (by rfl)).stickIf _ _
  · simp [h]

@[simp] theorem storeTimptr (b : Byte) (h : Changes a s) : Changes a (s.storeTimptr b) :=
  (h.atMotion (by rfl) (by rfl) (by rfl) (by rfl)).stickIf _ _

@[simp] theorem advanceTimptr (h : Changes a s) : Changes a s.advanceTimptr :=
  h.atMotion rfl rfl rfl rfl

@[simp] theorem readTimdata (h : Changes a s) : Changes a s.readTimdata := h.advanceTimptr.drive _

@[simp] theorem storeTimdata (b : Byte) (h : Changes a s) : Changes a (s.storeTimdata b) := by
  unfold State.storeTimdata
  split
  · have h' : Changes a (s.setXp { s.xp with
        timing := s.xp.timing.set s.xp.timptr (timingClamp s.xp.timptr b) }) :=
      h.xp ⟨.inr ⟨_, b, rfl⟩, .inr ⟨fun e => e, fun e => e⟩⟩
    exact h'.advanceTimptr.stickIf _ _
  · simp [h]

@[simp] theorem beginList (h : Changes a s) : Changes a s.beginList :=
  ((h.seq (by rfl)).forgetTags).runEntries _

@[simp] theorem startList (h : Changes a s) : Changes a s.startList := by
  unfold State.startList
  repeat' split
  all_goals simp [h]

@[simp] theorem stopList (h : Changes a s) : Changes a s.stopList := by
  unfold State.stopList
  split
  · exact ((h.answer _).setStopInd _).stopUnit
  all_goals simp [h]

@[simp] theorem abortList (h : Changes a s) : Changes a s.abortList := by
  unfold State.abortList
  split
  iterate 4 exact ((h.answer _).abortEntry).abortingCheck
  · exact (((h.answer _).abortMotion).setSeqState _).abortingCheck
  all_goals simp [h]

@[simp] theorem notFrozen (h : Changes a s) : Changes a s.notFrozen := by
  unfold State.notFrozen; split <;> simp [h]

@[simp] theorem continueList (h : Changes a s) : Changes a s.continueList := by
  unfold State.continueList
  split
  · exact carryOut (h.answer _).skip
  · exact h.notFrozen

@[simp] theorem hostRetry (h : Changes a s) : Changes a s.hostRetry.1 := (h.countAttempt false).reattempt

@[simp] theorem retryUnit (h : Changes a s) : Changes a s.retryUnit := by
  unfold State.retryUnit
  split
  · exact carryOut (h.answer _).hostRetry
  · exact h.notFrozen

/-! ## The soft reset -/

@[simp] theorem softMotion (h : Changes a s) : Changes a s.softMotion := by
  unfold State.softMotion; split <;> simp [h]

@[simp] theorem softReset (h : Changes a s) : Changes a s.softReset := by
  have h1 : Changes a s.channelIdle.softMotion.resetTransport :=
    h.channelIdle.softMotion.atMotion rfl rfl rfl rfl
  have h2 : Changes a ((s.channelIdle.softMotion.resetTransport.resetReadChannel).setCapture
      none).resetSequencer := ((h1.rch _).setCapture none).seq rfl
  exact host (streamFlags (h2.pool .softReset) rfl rfl rfl rfl (.inr rfl) (.inr rfl)) List.nil_suffix

/-! ## The register map -/

@[simp] theorem command (c : Byte) (h : Changes a s) : Changes a (s.command c) := by
  unfold State.command
  simp only [apply_ite (Changes a)]
  simp [h]

@[simp] theorem writeRegister (o : BitVec 5) (b : Byte) (h : Changes a s) :
    Changes a (s.writeRegister o b) := by
  unfold State.writeRegister
  simp only [apply_ite (Changes a)]
  simp [h]

@[simp] theorem readRegister (o : BitVec 5) (h : Changes a s) : Changes a (s.readRegister o) := by
  unfold State.readRegister
  simp only [apply_ite (Changes a)]
  simp [h]

end Changes

/-! ## The commands with a course of their own -/

namespace Changes

variable {a s : State}

/-- An edge of a level other than WPERMIT. -/
theorem edgeOf {f : Levels → Levels} (h : Changes a s) (hf : ∀ l, (f l).wpermit = l.wpermit) :
    Changes a (s.onLevels f) := h.onLevels (hf _)

theorem presentFall (h : Changes a s) : ∃ t, execPresentFall s = .next t ∧ Changes a t := by
  refine ⟨_, rfl, ?_⟩
  split
  · have h' := (((((h.edgeOf (f := fun l => { l with present := false }) (fun _ => rfl)).releaseAll
      .noCartridge).clearStraddle).forgetTags).cartridgeGone).raise .cartridgeChange
    refine abortingCheck ?_
    split
    · exact h'.endEntry _
    · exact h'.terminalChange _
  · exact h

theorem presentRise (h : Changes a s) : ∃ t, execPresentRise s = .next t ∧ Changes a t := by
  refine ⟨_, rfl, ?_⟩
  split
  · exact h
  · have h' := (h.edgeOf (f := fun l => { l with present := true }) (fun _ => rfl)).raise
      .cartridgeChange
    dsimp only
    split
    · exact h'.enterMotion _ _ _
    · exact h'

theorem readyFall (h : Changes a s) : ∃ t, execReadyFall s = .next t ∧ Changes a t := by
  refine ⟨_, rfl, ?_⟩
  split
  · have h' := h.edgeOf (f := fun l => { l with ready := false }) (fun _ => rfl)
    dsimp only
    split
    iterate 4 exact ((((h'.releaseAll _).forgetTags).lost).terminalChange _).abortingCheck
    · exact (((h'.releaseAll _).forgetTags).lost).terminalChange _
    all_goals exact h'.lost
  · exact h

theorem readyRise (h : Changes a s) : ∃ t, execReadyRise s = .next t ∧ Changes a t := by
  refine ⟨_, rfl, ?_⟩
  split
  · exact h
  · have h' := h.edgeOf (f := fun l => { l with ready := true }) (fun _ => rfl)
    dsimp only
    split
    · exact h'.enterMotion _ _ _
    · exact h'

theorem wpermitFall (h : Changes a s) : ∃ t, execWpermitFall s = .next t ∧ Changes a t := by
  refine ⟨_, rfl, ?_⟩
  split
  · have h' : Changes a (s.dropGates.onLevels (fun l => { l with wpermit := false })) :=
      h.dropGates.xp ⟨.inl rfl, .inl ⟨rfl, rfl⟩⟩
    dsimp only
    split
    iterate 3
      split
      · exact h'.channelIdle.blockLeft.terminalChange _
      · exact h'.channelIdle.blockLeft
    all_goals exact h'
  · exact h

theorem wpermitRise (h : Changes a s) : ∃ t, execWpermitRise s = .next t ∧ Changes a t := by
  refine ⟨_, rfl, ?_⟩
  split
  · exact h
  · exact h.xp ⟨.inl rfl, .inr ⟨fun e => e, fun _ => rfl⟩⟩

theorem bomRise (h : Changes a s) : ∃ t, execBomRise s = .next t ∧ Changes a t := by
  refine ⟨_, rfl, ?_⟩
  split
  · exact h
  · have h' := h.edgeOf (f := fun l => { l with bom := true }) (fun _ => rfl)
    dsimp only
    split
    iterate 2 exact (h'.bomReached.stopMotion).bomMet
    · exact h'.bomReached.bomMet
    · exact h'.rewindReached
    · split
      · exact h'
      · exact h'.bomReached
    · exact h'

theorem bomFall (h : Changes a s) : ∃ t, execBomFall s = .next t ∧ Changes a t := by
  refine ⟨_, rfl, ?_⟩
  split
  · have h' := h.edgeOf (f := fun l => { l with bom := false }) (fun _ => rfl)
    dsimp only
    split
    · exact h'.edge _
    · exact h'
  · exact h

theorem ewRise (h : Changes a s) : ∃ t, execEwRise s = .next t ∧ Changes a t := by
  refine ⟨_, rfl, ?_⟩
  split
  · exact h
  · have h' := h.edgeOf (f := fun l => { l with ew := true }) (fun _ => rfl)
    dsimp only
    split
    · exact (h'.edge _).ewPassed
    · exact h'

theorem ewFall (h : Changes a s) : ∃ t, execEwFall s = .next t ∧ Changes a t := by
  refine ⟨_, rfl, ?_⟩
  split
  · have h' := h.edgeOf (f := fun l => { l with ew := false }) (fun _ => rfl)
    dsimp only
    split
    · exact h'.edge _
    · exact h'
  · exact h

theorem eomRise (h : Changes a s) : ∃ t, execEomRise s = .next t ∧ Changes a t := by
  refine ⟨_, rfl, ?_⟩
  split
  · exact h
  · have h' := h.edgeOf (f := fun l => { l with eom := true }) (fun _ => rfl)
    dsimp only
    split
    · exact (((h'.releaseAll _).edge _).terminalChange _).abortingCheck
    · exact h'

theorem eomFall (h : Changes a s) : ∃ t, execEomFall s = .next t ∧ Changes a t := by
  refine ⟨_, rfl, ?_⟩
  split
  · have h' := h.edgeOf (f := fun l => { l with eom := false }) (fun _ => rfl)
    dsimp only
    split
    · exact h'.edge _
    · exact h'
  · exact h

theorem sclkRisingEdge (f b : Bool) (h : Changes a s) :
    ∃ t, execSclkRisingEdge f b s = .next t ∧ Changes a t := by
  refine ⟨_, rfl, ?_⟩
  split
  · exact h
  · split <;> simp [h]

theorem streamWordComplete (b : Bool) (h : Changes a s) :
    ∃ t, execStreamWordComplete b s = .next t ∧ Changes a t := by
  refine ⟨_, rfl, ?_⟩
  split
  · split <;> simp [h]
  · exact h

theorem framingError (b : Bool) (h : Changes a s) :
    ∃ t, execFramingError b s = .next t ∧ Changes a t := by
  refine ⟨_, rfl, ?_⟩
  split <;> simp [h]

theorem pacingIntervalStart (h : Changes a s) :
    ∃ t, execPacingIntervalStart s = .next t ∧ Changes a t := by
  refine ⟨_, rfl, ?_⟩
  split <;> simp [h]

theorem readHeadRow (x y : Row) (h : Changes a s) :
    ∃ t, execReadHeadRow x y s = .next t ∧ Changes a t := by
  refine ⟨_, rfl, ?_⟩
  split
  · split <;> simp [h]
  · exact h

theorem gapTimerExpiry (h : Changes a s) : ∃ t, execGapTimerExpiry s = .next t ∧ Changes a t := by
  refine ⟨_, rfl, ?_⟩
  split
  · have h' : Changes a (s.setWch { s.wch with gapTimer := .ranOut }) := h.atGates rfl rfl rfl rfl
    dsimp only
    split
    · exact h'.openBlock
    · exact h'
  · exact h

theorem checkGroupWritten (h : Changes a s) :
    ∃ t, execCheckGroupWritten s = .next t ∧ Changes a t := by
  refine ⟨_, rfl, ?_⟩
  split
  · exact h
  · split
    · dsimp only
      split
      · simp [h]
      · exact carryOut ((h.blockOnTape _).writeReport _ _)
    · exact h

theorem postambleWritten (h : Changes a s) : ∃ t, execPostambleWritten s = .next t ∧ Changes a t := by
  refine ⟨_, rfl, ?_⟩
  split
  · exact h
  · split <;> simp [h]

theorem verifyWatchOpen (h : Changes a s) : ∃ t, execVerifyWatchOpen s = .next t ∧ Changes a t := by
  refine ⟨_, rfl, ?_⟩
  split
  · exact h.atGates rfl rfl rfl rfl
  · exact h

theorem verifyDeadline (h : Changes a s) : ∃ t, execVerifyDeadline s = .next t ∧ Changes a t := by
  refine ⟨_, rfl, ?_⟩
  split <;> simp [h]

theorem eraseTimerExpiry (h : Changes a s) : ∃ t, execEraseTimerExpiry s = .next t ∧ Changes a t := by
  refine ⟨_, rfl, ?_⟩
  split
  · have h' : Changes a (s.setWch { s.wch with eraseTimer := none }) := h.atGates rfl rfl rfl rfl
    exact (carryOut h'.eraseDone).settleChannel
  · exact h

theorem startRampExpiry (h : Changes a s) : ∃ t, execStartRampExpiry s = .next t ∧ Changes a t := by
  refine ⟨_, rfl, ?_⟩
  split
  · dsimp only
    split
    · exact (h.enterMotion _ _ _).reportRunning.takeIdle
    · exact (h.enterMotion _ _ _).reportRunning
  · exact h

theorem stopRampExpiry (h : Changes a s) : ∃ t, execStopRampExpiry s = .next t ∧ Changes a t := by
  refine ⟨_, rfl, ?_⟩
  split
  · refine afterRest (abortingCheck ?_)
    split
    · exact (h.cutBurst.enterMotion _ _ _).burstOver _
    · exact h.cutBurst.enterMotion _ _ _
  · exact h

theorem lingerExpiry (h : Changes a s) : ∃ t, execLingerExpiry s = .next t ∧ Changes a t := by
  refine ⟨_, rfl, ?_⟩
  split <;> simp [h]

theorem rewindLimitExpiry (h : Changes a s) :
    ∃ t, execRewindLimitExpiry s = .next t ∧ Changes a t := by
  refine ⟨_, rfl, ?_⟩
  split
  · exact ((((h.releaseAll _).forgetTags).lost).terminalChange _).abortingCheck
  · exact h

theorem blankWindowExpiry (h : Changes a s) :
    ∃ t, execBlankWindowExpiry s = .next t ∧ Changes a t := by
  refine ⟨_, rfl, ?_⟩
  split <;> simp [h]

theorem heldRequestAnswered (h : Changes a s) :
    ∃ t, execHeldRequestAnswered s = .next t ∧ Changes a t := by
  refine ⟨_, rfl, ?_⟩
  split <;> simp [h]

theorem keptIdleReportTaken (h : Changes a s) :
    ∃ t, execKeptIdleReportTaken s = .next t ∧ Changes a t := by
  refine ⟨_, rfl, ?_⟩
  split
  · exact (h.atMotion (by rfl) (by rfl) (by rfl) (by rfl)).takeIdle
  · exact h

theorem ejectPhaseBegin (h : Changes a s) : ∃ t, execEjectPhaseBegin s = .next t ∧ Changes a t := by
  refine ⟨_, rfl, ?_⟩
  split <;> simp [h]

theorem blockOpenOnClassify (h : Changes a s) :
    ∃ t, execBlockOpenOnClassify s = .next t ∧ Changes a t := by
  refine ⟨_, rfl, ?_⟩
  split <;> simp [h]

theorem otherRegisterRead (o : BitVec 5) (h : Changes a s) :
    ∃ t, execOtherRegisterRead o s = .next t ∧ Changes a t := by
  refine ⟨_, rfl, ?_⟩
  split <;> simp [h]

end Changes

/-! ## Every command -/

/-- Every command answers a next state, and gets there by changes of the listed kinds. -/
theorem exec_changes (c : Instr) (s : State) : ∃ t, exec c s = .next t ∧ Changes s t := by
  have h : Changes s s := .refl
  cases c
  case presentFall => exact h.presentFall
  case presentRise => exact h.presentRise
  case readyFall => exact h.readyFall
  case readyRise => exact h.readyRise
  case wpermitFall => exact h.wpermitFall
  case wpermitRise => exact h.wpermitRise
  case bomRise => exact h.bomRise
  case bomFall => exact h.bomFall
  case ewRise => exact h.ewRise
  case ewFall => exact h.ewFall
  case eomRise => exact h.eomRise
  case eomFall => exact h.eomFall
  case sclkRisingEdge f b => exact h.sclkRisingEdge f b
  case streamWordComplete b => exact h.streamWordComplete b
  case framingError b => exact h.framingError b
  case pacingIntervalStart => exact h.pacingIntervalStart
  case readHeadRow x y => exact h.readHeadRow x y
  case gapTimerExpiry => exact h.gapTimerExpiry
  case checkGroupWritten => exact h.checkGroupWritten
  case postambleWritten => exact h.postambleWritten
  case verifyWatchOpen => exact h.verifyWatchOpen
  case verifyDeadline => exact h.verifyDeadline
  case eraseTimerExpiry => exact h.eraseTimerExpiry
  case startRampExpiry => exact h.startRampExpiry
  case stopRampExpiry => exact h.stopRampExpiry
  case lingerExpiry => exact h.lingerExpiry
  case rewindLimitExpiry => exact h.rewindLimitExpiry
  case blankWindowExpiry => exact h.blankWindowExpiry
  case heldRequestAnswered => exact h.heldRequestAnswered
  case keptIdleReportTaken => exact h.keptIdleReportTaken
  case ejectPhaseBegin => exact h.ejectPhaseBegin
  case blockOpenOnClassify => exact h.blockOpenOnClassify
  case otherRegisterRead o => exact h.otherRegisterRead o
  case pinReset lv => exact ⟨_, rfl, .pinReset lv h⟩
  all_goals exact ⟨_, rfl, by simp [h]⟩

end Sys2Proof.Machine
end

