-- ==== Sys2Proof/Laws/Frames.lean ====
section
/-! SUPPORT. The frames of the transport's operations and of the read channel's small ones: which parts of
the state each of them leaves as they are. -/

namespace Sys2Proof.Machine

/-! ## dropGates -/

@[simp] theorem State.dropGates_pending (s : State) :
    (s.dropGates).pending = s.pending := rfl
@[simp] theorem State.dropGates_host (s : State) :
    (s.dropGates).host = s.host := rfl
@[simp] theorem State.dropGates_pool (s : State) :
    (s.dropGates).pool = s.pool := rfl
@[simp] theorem State.dropGates_seq (s : State) :
    (s.dropGates).seq = s.seq := rfl
@[simp] theorem State.dropGates_rch (s : State) :
    (s.dropGates).rch = s.rch := rfl
@[simp] theorem State.dropGates_capture (s : State) :
    (s.dropGates).capture = s.capture := rfl
@[simp] theorem State.dropGates_pos (s : State) :
    (s.dropGates).pos = s.pos := rfl
@[simp] theorem State.dropGates_xp (s : State) :
    (s.dropGates).xp = s.xp := rfl
@[simp] theorem State.dropGates_stream (s : State) :
    (s.dropGates).stream = s.stream := rfl

/-! ## enterMotion -/

@[simp] theorem State.enterMotion_pending (m : Motion) (d : Dir) (fast : Bool) (s : State) :
    (s.enterMotion m d fast).pending = s.pending := by unfold State.enterMotion; split <;> rfl
@[simp] theorem State.enterMotion_host (m : Motion) (d : Dir) (fast : Bool) (s : State) :
    (s.enterMotion m d fast).host = s.host := by unfold State.enterMotion; split <;> rfl
@[simp] theorem State.enterMotion_pool (m : Motion) (d : Dir) (fast : Bool) (s : State) :
    (s.enterMotion m d fast).pool = s.pool := by unfold State.enterMotion; split <;> rfl
@[simp] theorem State.enterMotion_seq (m : Motion) (d : Dir) (fast : Bool) (s : State) :
    (s.enterMotion m d fast).seq = s.seq := by unfold State.enterMotion; split <;> rfl
@[simp] theorem State.enterMotion_rch (m : Motion) (d : Dir) (fast : Bool) (s : State) :
    (s.enterMotion m d fast).rch = s.rch := by unfold State.enterMotion; split <;> rfl
@[simp] theorem State.enterMotion_capture (m : Motion) (d : Dir) (fast : Bool) (s : State) :
    (s.enterMotion m d fast).capture = s.capture := by unfold State.enterMotion; split <;> rfl
@[simp] theorem State.enterMotion_pos (m : Motion) (d : Dir) (fast : Bool) (s : State) :
    (s.enterMotion m d fast).pos = s.pos := by unfold State.enterMotion; split <;> rfl
@[simp] theorem State.enterMotion_stream (m : Motion) (d : Dir) (fast : Bool) (s : State) :
    (s.enterMotion m d fast).stream = s.stream := by unfold State.enterMotion; split <;> rfl

/-! ## startMotion -/

@[simp] theorem State.startMotion_pending (d : Dir) (s : State) :
    (s.startMotion d).pending = s.pending := by
  simp only [State.startMotion]; split <;> simp [State.forgetTags, State.enterMotion]
@[simp] theorem State.startMotion_host (d : Dir) (s : State) :
    (s.startMotion d).host = s.host := by
  simp only [State.startMotion]; split <;> simp [State.forgetTags, State.enterMotion]
@[simp] theorem State.startMotion_pool (d : Dir) (s : State) :
    (s.startMotion d).pool = s.pool := by
  simp only [State.startMotion]; split <;> simp [State.forgetTags, State.enterMotion]
@[simp] theorem State.startMotion_seq (d : Dir) (s : State) :
    (s.startMotion d).seq = s.seq := by
  simp only [State.startMotion]; split <;> simp [State.forgetTags, State.enterMotion]
@[simp] theorem State.startMotion_capture (d : Dir) (s : State) :
    (s.startMotion d).capture = s.capture := by
  simp only [State.startMotion]; split <;> simp [State.forgetTags, State.enterMotion]
@[simp] theorem State.startMotion_pos (d : Dir) (s : State) :
    (s.startMotion d).pos = s.pos := by
  simp only [State.startMotion]; split <;> simp [State.forgetTags, State.enterMotion]
@[simp] theorem State.startMotion_stream (d : Dir) (s : State) :
    (s.startMotion d).stream = s.stream := by
  simp only [State.startMotion]; split <;> simp [State.forgetTags, State.enterMotion]

/-! ## stopMotion -/

@[simp] theorem State.stopMotion_pending (s : State) :
    (s.stopMotion).pending = s.pending := by simp [State.stopMotion]
@[simp] theorem State.stopMotion_host (s : State) :
    (s.stopMotion).host = s.host := by simp [State.stopMotion]
@[simp] theorem State.stopMotion_pool (s : State) :
    (s.stopMotion).pool = s.pool := by simp [State.stopMotion]
@[simp] theorem State.stopMotion_seq (s : State) :
    (s.stopMotion).seq = s.seq := by simp [State.stopMotion]
@[simp] theorem State.stopMotion_rch (s : State) :
    (s.stopMotion).rch = s.rch := by simp [State.stopMotion]
@[simp] theorem State.stopMotion_capture (s : State) :
    (s.stopMotion).capture = s.capture := by simp [State.stopMotion]
@[simp] theorem State.stopMotion_pos (s : State) :
    (s.stopMotion).pos = s.pos := by simp [State.stopMotion]
@[simp] theorem State.stopMotion_stream (s : State) :
    (s.stopMotion).stream = s.stream := by simp [State.stopMotion]

/-! ## takeStop -/

@[simp] theorem State.takeStop_pending (s : State) :
    (s.takeStop).pending = s.pending := by
  unfold State.takeStop; split <;> simp [State.hold, State.setUnloadInd]
@[simp] theorem State.takeStop_host (s : State) :
    (s.takeStop).host = s.host := by
  unfold State.takeStop; split <;> simp [State.hold, State.setUnloadInd]
@[simp] theorem State.takeStop_pool (s : State) :
    (s.takeStop).pool = s.pool := by
  unfold State.takeStop; split <;> simp [State.hold, State.setUnloadInd]
@[simp] theorem State.takeStop_seq (s : State) :
    (s.takeStop).seq = s.seq := by
  unfold State.takeStop; split <;> simp [State.hold, State.setUnloadInd]
@[simp] theorem State.takeStop_rch (s : State) :
    (s.takeStop).rch = s.rch := by
  unfold State.takeStop; split <;> simp [State.hold, State.setUnloadInd]
@[simp] theorem State.takeStop_capture (s : State) :
    (s.takeStop).capture = s.capture := by
  unfold State.takeStop; split <;> simp [State.hold, State.setUnloadInd]
@[simp] theorem State.takeStop_pos (s : State) :
    (s.takeStop).pos = s.pos := by
  unfold State.takeStop; split <;> simp [State.hold, State.setUnloadInd]
@[simp] theorem State.takeStop_stream (s : State) :
    (s.takeStop).stream = s.stream := by
  unfold State.takeStop; split <;> simp [State.hold, State.setUnloadInd]

/-! ## defer -/

@[simp] theorem State.defer_pending (r : Deferred) (s : State) :
    (s.defer r).pending = s.pending := by unfold State.defer; split <;> rfl
@[simp] theorem State.defer_host (r : Deferred) (s : State) :
    (s.defer r).host = s.host := by unfold State.defer; split <;> rfl
@[simp] theorem State.defer_pool (r : Deferred) (s : State) :
    (s.defer r).pool = s.pool := by unfold State.defer; split <;> rfl
@[simp] theorem State.defer_seq (r : Deferred) (s : State) :
    (s.defer r).seq = s.seq := by unfold State.defer; split <;> rfl
@[simp] theorem State.defer_wch (r : Deferred) (s : State) :
    (s.defer r).wch = s.wch := by unfold State.defer; split <;> rfl
@[simp] theorem State.defer_rch (r : Deferred) (s : State) :
    (s.defer r).rch = s.rch := by unfold State.defer; split <;> rfl
@[simp] theorem State.defer_capture (r : Deferred) (s : State) :
    (s.defer r).capture = s.capture := by unfold State.defer; split <;> rfl
@[simp] theorem State.defer_pos (r : Deferred) (s : State) :
    (s.defer r).pos = s.pos := by unfold State.defer; split <;> rfl
@[simp] theorem State.defer_stream (r : Deferred) (s : State) :
    (s.defer r).stream = s.stream := by unfold State.defer; split <;> rfl

/-! ## requestStop -/

@[simp] theorem State.requestStop_pending (s : State) :
    (s.requestStop).pending = s.pending := by unfold State.requestStop; split <;> simp
@[simp] theorem State.requestStop_host (s : State) :
    (s.requestStop).host = s.host := by unfold State.requestStop; split <;> simp
@[simp] theorem State.requestStop_pool (s : State) :
    (s.requestStop).pool = s.pool := by unfold State.requestStop; split <;> simp
@[simp] theorem State.requestStop_seq (s : State) :
    (s.requestStop).seq = s.seq := by unfold State.requestStop; split <;> simp
@[simp] theorem State.requestStop_rch (s : State) :
    (s.requestStop).rch = s.rch := by unfold State.requestStop; split <;> simp
@[simp] theorem State.requestStop_capture (s : State) :
    (s.requestStop).capture = s.capture := by unfold State.requestStop; split <;> simp
@[simp] theorem State.requestStop_pos (s : State) :
    (s.requestStop).pos = s.pos := by unfold State.requestStop; split <;> simp
@[simp] theorem State.requestStop_stream (s : State) :
    (s.requestStop).stream = s.stream := by unfold State.requestStop; split <;> simp

/-! ## beginLinger -/

@[simp] theorem State.beginLinger_pending (s : State) :
    (s.beginLinger).pending = s.pending := by
  unfold State.beginLinger; split <;> (try split) <;> simp
@[simp] theorem State.beginLinger_host (s : State) :
    (s.beginLinger).host = s.host := by unfold State.beginLinger; split <;> (try split) <;> simp
@[simp] theorem State.beginLinger_pool (s : State) :
    (s.beginLinger).pool = s.pool := by unfold State.beginLinger; split <;> (try split) <;> simp
@[simp] theorem State.beginLinger_seq (s : State) :
    (s.beginLinger).seq = s.seq := by unfold State.beginLinger; split <;> (try split) <;> simp
@[simp] theorem State.beginLinger_rch (s : State) :
    (s.beginLinger).rch = s.rch := by unfold State.beginLinger; split <;> (try split) <;> simp
@[simp] theorem State.beginLinger_capture (s : State) :
    (s.beginLinger).capture = s.capture := by
  unfold State.beginLinger; split <;> (try split) <;> simp
@[simp] theorem State.beginLinger_pos (s : State) :
    (s.beginLinger).pos = s.pos := by unfold State.beginLinger; split <;> (try split) <;> simp
@[simp] theorem State.beginLinger_stream (s : State) :
    (s.beginLinger).stream = s.stream := by unfold State.beginLinger; split <;> (try split) <;> simp

/-! ## takeIdle -/

@[simp] theorem State.takeIdle_pending (s : State) :
    (s.takeIdle).pending = s.pending := by unfold State.takeIdle; split <;> simp
@[simp] theorem State.takeIdle_host (s : State) :
    (s.takeIdle).host = s.host := by unfold State.takeIdle; split <;> simp
@[simp] theorem State.takeIdle_pool (s : State) :
    (s.takeIdle).pool = s.pool := by unfold State.takeIdle; split <;> simp
@[simp] theorem State.takeIdle_seq (s : State) :
    (s.takeIdle).seq = s.seq := by unfold State.takeIdle; split <;> simp
@[simp] theorem State.takeIdle_rch (s : State) :
    (s.takeIdle).rch = s.rch := by unfold State.takeIdle; split <;> simp
@[simp] theorem State.takeIdle_capture (s : State) :
    (s.takeIdle).capture = s.capture := by unfold State.takeIdle; split <;> simp
@[simp] theorem State.takeIdle_pos (s : State) :
    (s.takeIdle).pos = s.pos := by unfold State.takeIdle; split <;> simp
@[simp] theorem State.takeIdle_stream (s : State) :
    (s.takeIdle).stream = s.stream := by unfold State.takeIdle; split <;> simp

/-! ## idleReport -/

@[simp] theorem State.idleReport_pending (s : State) :
    (s.idleReport).pending = s.pending := by unfold State.idleReport; split <;> simp
@[simp] theorem State.idleReport_host (s : State) :
    (s.idleReport).host = s.host := by unfold State.idleReport; split <;> simp
@[simp] theorem State.idleReport_pool (s : State) :
    (s.idleReport).pool = s.pool := by unfold State.idleReport; split <;> simp
@[simp] theorem State.idleReport_seq (s : State) :
    (s.idleReport).seq = s.seq := by unfold State.idleReport; split <;> simp
@[simp] theorem State.idleReport_rch (s : State) :
    (s.idleReport).rch = s.rch := by unfold State.idleReport; split <;> simp
@[simp] theorem State.idleReport_capture (s : State) :
    (s.idleReport).capture = s.capture := by unfold State.idleReport; split <;> simp
@[simp] theorem State.idleReport_pos (s : State) :
    (s.idleReport).pos = s.pos := by unfold State.idleReport; split <;> simp
@[simp] theorem State.idleReport_stream (s : State) :
    (s.idleReport).stream = s.stream := by unfold State.idleReport; split <;> simp

/-! ## releaseLines -/

@[simp] theorem State.releaseLines_pending (m : Motion) (s : State) :
    (s.releaseLines m).pending = s.pending := by
  simp [State.releaseLines, State.hold, State.setUnloadInd]
@[simp] theorem State.releaseLines_host (m : Motion) (s : State) :
    (s.releaseLines m).host = s.host := by simp [State.releaseLines, State.hold, State.setUnloadInd]
@[simp] theorem State.releaseLines_pool (m : Motion) (s : State) :
    (s.releaseLines m).pool = s.pool := by simp [State.releaseLines, State.hold, State.setUnloadInd]
@[simp] theorem State.releaseLines_seq (m : Motion) (s : State) :
    (s.releaseLines m).seq = s.seq := by simp [State.releaseLines, State.hold, State.setUnloadInd]
@[simp] theorem State.releaseLines_rch (m : Motion) (s : State) :
    (s.releaseLines m).rch = s.rch := by simp [State.releaseLines, State.hold, State.setUnloadInd]
@[simp] theorem State.releaseLines_capture (m : Motion) (s : State) :
    (s.releaseLines m).capture = s.capture := by
  simp [State.releaseLines, State.hold, State.setUnloadInd]
@[simp] theorem State.releaseLines_pos (m : Motion) (s : State) :
    (s.releaseLines m).pos = s.pos := by simp [State.releaseLines, State.hold, State.setUnloadInd]
@[simp] theorem State.releaseLines_stream (m : Motion) (s : State) :
    (s.releaseLines m).stream = s.stream := by
  simp [State.releaseLines, State.hold, State.setUnloadInd]

/-! ## stopBlank -/

@[simp] theorem State.stopBlank_pending (s : State) :
    (s.stopBlank).pending = s.pending := rfl
@[simp] theorem State.stopBlank_host (s : State) :
    (s.stopBlank).host = s.host := rfl
@[simp] theorem State.stopBlank_pool (s : State) :
    (s.stopBlank).pool = s.pool := rfl
@[simp] theorem State.stopBlank_seq (s : State) :
    (s.stopBlank).seq = s.seq := rfl
@[simp] theorem State.stopBlank_wch (s : State) :
    (s.stopBlank).wch = s.wch := rfl
@[simp] theorem State.stopBlank_rch (s : State) :
    (s.stopBlank).rch = s.rch := rfl
@[simp] theorem State.stopBlank_capture (s : State) :
    (s.stopBlank).capture = s.capture := rfl
@[simp] theorem State.stopBlank_pos (s : State) :
    (s.stopBlank).pos = s.pos := rfl
@[simp] theorem State.stopBlank_stream (s : State) :
    (s.stopBlank).stream = s.stream := rfl

/-! ## startBlank -/

@[simp] theorem State.startBlank_pending (s : State) :
    (s.startBlank).pending = s.pending := by unfold State.startBlank; split <;> rfl
@[simp] theorem State.startBlank_host (s : State) :
    (s.startBlank).host = s.host := by unfold State.startBlank; split <;> rfl
@[simp] theorem State.startBlank_pool (s : State) :
    (s.startBlank).pool = s.pool := by unfold State.startBlank; split <;> rfl
@[simp] theorem State.startBlank_seq (s : State) :
    (s.startBlank).seq = s.seq := by unfold State.startBlank; split <;> rfl
@[simp] theorem State.startBlank_wch (s : State) :
    (s.startBlank).wch = s.wch := by unfold State.startBlank; split <;> rfl
@[simp] theorem State.startBlank_rch (s : State) :
    (s.startBlank).rch = s.rch := by unfold State.startBlank; split <;> rfl
@[simp] theorem State.startBlank_capture (s : State) :
    (s.startBlank).capture = s.capture := by unfold State.startBlank; split <;> rfl
@[simp] theorem State.startBlank_pos (s : State) :
    (s.startBlank).pos = s.pos := by unfold State.startBlank; split <;> rfl
@[simp] theorem State.startBlank_stream (s : State) :
    (s.startBlank).stream = s.stream := by unfold State.startBlank; split <;> rfl

/-! ## dropTarget -/

@[simp] theorem State.dropTarget_pending (s : State) :
    (s.dropTarget).pending = s.pending := rfl
@[simp] theorem State.dropTarget_host (s : State) :
    (s.dropTarget).host = s.host := rfl
@[simp] theorem State.dropTarget_pool (s : State) :
    (s.dropTarget).pool = s.pool := rfl
@[simp] theorem State.dropTarget_seq (s : State) :
    (s.dropTarget).seq = s.seq := rfl
@[simp] theorem State.dropTarget_wch (s : State) :
    (s.dropTarget).wch = s.wch := rfl
@[simp] theorem State.dropTarget_capture (s : State) :
    (s.dropTarget).capture = s.capture := rfl
@[simp] theorem State.dropTarget_pos (s : State) :
    (s.dropTarget).pos = s.pos := rfl
@[simp] theorem State.dropTarget_xp (s : State) :
    (s.dropTarget).xp = s.xp := rfl
@[simp] theorem State.dropTarget_stream (s : State) :
    (s.dropTarget).stream = s.stream := rfl

/-! ## startRewind -/

@[simp] theorem State.startRewind_pending (s : State) :
    (s.startRewind).pending = s.pending := by
  simp [State.startRewind, State.onPos, State.forgetTags, State.clearStraddle]
@[simp] theorem State.startRewind_host (s : State) :
    (s.startRewind).host = s.host := by
  simp [State.startRewind, State.onPos, State.forgetTags, State.clearStraddle]
@[simp] theorem State.startRewind_pool (s : State) :
    (s.startRewind).pool = s.pool := by
  simp [State.startRewind, State.onPos, State.forgetTags, State.clearStraddle]
@[simp] theorem State.startRewind_seq (s : State) :
    (s.startRewind).seq = s.seq := by
  simp [State.startRewind, State.onPos, State.forgetTags, State.clearStraddle]
@[simp] theorem State.startRewind_capture (s : State) :
    (s.startRewind).capture = s.capture := by
  simp [State.startRewind, State.onPos, State.forgetTags, State.clearStraddle]
@[simp] theorem State.startRewind_stream (s : State) :
    (s.startRewind).stream = s.stream := by
  simp [State.startRewind, State.onPos, State.forgetTags, State.clearStraddle]

/-! ## beginEject -/

@[simp] theorem State.beginEject_pending (s : State) :
    (s.beginEject).pending = s.pending := by
  simp [State.beginEject, State.forgetTags, State.clearStraddle]
@[simp] theorem State.beginEject_host (s : State) :
    (s.beginEject).host = s.host := by
  simp [State.beginEject, State.forgetTags, State.clearStraddle]
@[simp] theorem State.beginEject_pool (s : State) :
    (s.beginEject).pool = s.pool := by
  simp [State.beginEject, State.forgetTags, State.clearStraddle]
@[simp] theorem State.beginEject_seq (s : State) :
    (s.beginEject).seq = s.seq := by simp [State.beginEject, State.forgetTags, State.clearStraddle]
@[simp] theorem State.beginEject_capture (s : State) :
    (s.beginEject).capture = s.capture := by
  simp [State.beginEject, State.forgetTags, State.clearStraddle]
@[simp] theorem State.beginEject_pos (s : State) :
    (s.beginEject).pos = s.pos := by simp [State.beginEject, State.forgetTags, State.clearStraddle]
@[simp] theorem State.beginEject_stream (s : State) :
    (s.beginEject).stream = s.stream := by
  simp [State.beginEject, State.forgetTags, State.clearStraddle]

/-! ## takeDir -/

@[simp] theorem State.takeDir_pending (d : Dir) (s : State) :
    (s.takeDir d).1.pending = s.pending := by
  unfold State.takeDir; (repeat' split) <;> simp [State.stopAndHold, State.hold]
@[simp] theorem State.takeDir_host (d : Dir) (s : State) :
    (s.takeDir d).1.host = s.host := by
  unfold State.takeDir; (repeat' split) <;> simp [State.stopAndHold, State.hold]
@[simp] theorem State.takeDir_pool (d : Dir) (s : State) :
    (s.takeDir d).1.pool = s.pool := by
  unfold State.takeDir; (repeat' split) <;> simp [State.stopAndHold, State.hold]
@[simp] theorem State.takeDir_seq (d : Dir) (s : State) :
    (s.takeDir d).1.seq = s.seq := by
  unfold State.takeDir; (repeat' split) <;> simp [State.stopAndHold, State.hold]
@[simp] theorem State.takeDir_capture (d : Dir) (s : State) :
    (s.takeDir d).1.capture = s.capture := by
  unfold State.takeDir; (repeat' split) <;> simp [State.stopAndHold, State.hold]
@[simp] theorem State.takeDir_pos (d : Dir) (s : State) :
    (s.takeDir d).1.pos = s.pos := by
  unfold State.takeDir; (repeat' split) <;> simp [State.stopAndHold, State.hold]
@[simp] theorem State.takeDir_stream (d : Dir) (s : State) :
    (s.takeDir d).1.stream = s.stream := by
  unfold State.takeDir; (repeat' split) <;> simp [State.stopAndHold, State.hold]

/-! ## requestDir -/

@[simp] theorem State.requestDir_pending (d : Dir) (s : State) :
    (s.requestDir d).1.pending = s.pending := by
  unfold State.requestDir; (repeat' split) <;> simp [State.onPos]
@[simp] theorem State.requestDir_host (d : Dir) (s : State) :
    (s.requestDir d).1.host = s.host := by
  unfold State.requestDir; (repeat' split) <;> simp [State.onPos]
@[simp] theorem State.requestDir_pool (d : Dir) (s : State) :
    (s.requestDir d).1.pool = s.pool := by
  unfold State.requestDir; (repeat' split) <;> simp [State.onPos]
@[simp] theorem State.requestDir_seq (d : Dir) (s : State) :
    (s.requestDir d).1.seq = s.seq := by
  unfold State.requestDir; (repeat' split) <;> simp [State.onPos]
@[simp] theorem State.requestDir_capture (d : Dir) (s : State) :
    (s.requestDir d).1.capture = s.capture := by
  unfold State.requestDir; (repeat' split) <;> simp [State.onPos]
@[simp] theorem State.requestDir_stream (d : Dir) (s : State) :
    (s.requestDir d).1.stream = s.stream := by
  unfold State.requestDir; (repeat' split) <;> simp [State.onPos]

/-! ## rewindAtRest -/

@[simp] theorem State.rewindAtRest_pending (s : State) :
    (s.rewindAtRest).1.pending = s.pending := by
  unfold State.rewindAtRest; (repeat' split) <;> simp [State.onPos]
@[simp] theorem State.rewindAtRest_host (s : State) :
    (s.rewindAtRest).1.host = s.host := by
  unfold State.rewindAtRest; (repeat' split) <;> simp [State.onPos]
@[simp] theorem State.rewindAtRest_pool (s : State) :
    (s.rewindAtRest).1.pool = s.pool := by
  unfold State.rewindAtRest; (repeat' split) <;> simp [State.onPos]
@[simp] theorem State.rewindAtRest_seq (s : State) :
    (s.rewindAtRest).1.seq = s.seq := by
  unfold State.rewindAtRest; (repeat' split) <;> simp [State.onPos]
@[simp] theorem State.rewindAtRest_capture (s : State) :
    (s.rewindAtRest).1.capture = s.capture := by
  unfold State.rewindAtRest; (repeat' split) <;> simp [State.onPos]
@[simp] theorem State.rewindAtRest_stream (s : State) :
    (s.rewindAtRest).1.stream = s.stream := by
  unfold State.rewindAtRest; (repeat' split) <;> simp [State.onPos]

/-! ## unloadAtRest -/

@[simp] theorem State.unloadAtRest_pending (s : State) :
    (s.unloadAtRest).1.pending = s.pending := by
  unfold State.unloadAtRest; dsimp only; split <;> simp [State.onPos, State.setUnloadInd]
@[simp] theorem State.unloadAtRest_host (s : State) :
    (s.unloadAtRest).1.host = s.host := by
  unfold State.unloadAtRest; dsimp only; split <;> simp [State.onPos, State.setUnloadInd]
@[simp] theorem State.unloadAtRest_pool (s : State) :
    (s.unloadAtRest).1.pool = s.pool := by
  unfold State.unloadAtRest; dsimp only; split <;> simp [State.onPos, State.setUnloadInd]
@[simp] theorem State.unloadAtRest_seq (s : State) :
    (s.unloadAtRest).1.seq = s.seq := by
  unfold State.unloadAtRest; dsimp only; split <;> simp [State.onPos, State.setUnloadInd]
@[simp] theorem State.unloadAtRest_capture (s : State) :
    (s.unloadAtRest).1.capture = s.capture := by
  unfold State.unloadAtRest; dsimp only; split <;> simp [State.onPos, State.setUnloadInd]
@[simp] theorem State.unloadAtRest_stream (s : State) :
    (s.unloadAtRest).1.stream = s.stream := by
  unfold State.unloadAtRest; dsimp only; split <;> simp [State.onPos, State.setUnloadInd]

/-! ## requestRewind -/

@[simp] theorem State.requestRewind_pending (s : State) :
    (s.requestRewind).1.pending = s.pending := by
  unfold State.requestRewind State.requestLong; (repeat' split) <;> simp [State.stopAndHold, State.hold]
@[simp] theorem State.requestRewind_host (s : State) :
    (s.requestRewind).1.host = s.host := by
  unfold State.requestRewind State.requestLong; (repeat' split) <;> simp [State.stopAndHold, State.hold]
@[simp] theorem State.requestRewind_pool (s : State) :
    (s.requestRewind).1.pool = s.pool := by
  unfold State.requestRewind State.requestLong; (repeat' split) <;> simp [State.stopAndHold, State.hold]
@[simp] theorem State.requestRewind_seq (s : State) :
    (s.requestRewind).1.seq = s.seq := by
  unfold State.requestRewind State.requestLong; (repeat' split) <;> simp [State.stopAndHold, State.hold]
@[simp] theorem State.requestRewind_capture (s : State) :
    (s.requestRewind).1.capture = s.capture := by
  unfold State.requestRewind State.requestLong; (repeat' split) <;> simp [State.stopAndHold, State.hold]
@[simp] theorem State.requestRewind_stream (s : State) :
    (s.requestRewind).1.stream = s.stream := by
  unfold State.requestRewind State.requestLong; (repeat' split) <;> simp [State.stopAndHold, State.hold]

/-! ## requestUnload -/

@[simp] theorem State.requestUnload_pending (s : State) :
    (s.requestUnload).1.pending = s.pending := by
  unfold State.requestUnload State.requestLong; (repeat' split) <;> simp [State.stopAndHold, State.hold]
@[simp] theorem State.requestUnload_host (s : State) :
    (s.requestUnload).1.host = s.host := by
  unfold State.requestUnload State.requestLong; (repeat' split) <;> simp [State.stopAndHold, State.hold]
@[simp] theorem State.requestUnload_pool (s : State) :
    (s.requestUnload).1.pool = s.pool := by
  unfold State.requestUnload State.requestLong; (repeat' split) <;> simp [State.stopAndHold, State.hold]
@[simp] theorem State.requestUnload_seq (s : State) :
    (s.requestUnload).1.seq = s.seq := by
  unfold State.requestUnload State.requestLong; (repeat' split) <;> simp [State.stopAndHold, State.hold]
@[simp] theorem State.requestUnload_capture (s : State) :
    (s.requestUnload).1.capture = s.capture := by
  unfold State.requestUnload State.requestLong; (repeat' split) <;> simp [State.stopAndHold, State.hold]
@[simp] theorem State.requestUnload_stream (s : State) :
    (s.requestUnload).1.stream = s.stream := by
  unfold State.requestUnload State.requestLong; (repeat' split) <;> simp [State.stopAndHold, State.hold]

/-! ## takeOneDeferred -/

@[simp] theorem State.takeOneDeferred_pending (r : Deferred) (s : State) :
    (s.takeOneDeferred r).1.pending = s.pending := by cases r <;> simp [State.takeOneDeferred]
@[simp] theorem State.takeOneDeferred_host (r : Deferred) (s : State) :
    (s.takeOneDeferred r).1.host = s.host := by cases r <;> simp [State.takeOneDeferred]
@[simp] theorem State.takeOneDeferred_pool (r : Deferred) (s : State) :
    (s.takeOneDeferred r).1.pool = s.pool := by cases r <;> simp [State.takeOneDeferred]
@[simp] theorem State.takeOneDeferred_seq (r : Deferred) (s : State) :
    (s.takeOneDeferred r).1.seq = s.seq := by cases r <;> simp [State.takeOneDeferred]
@[simp] theorem State.takeOneDeferred_capture (r : Deferred) (s : State) :
    (s.takeOneDeferred r).1.capture = s.capture := by cases r <;> simp [State.takeOneDeferred]
@[simp] theorem State.takeOneDeferred_stream (r : Deferred) (s : State) :
    (s.takeOneDeferred r).1.stream = s.stream := by cases r <;> simp [State.takeOneDeferred]

/-- What every deferred request keeps, the taking of them all keeps. -/
theorem State.spendDeferred_keeps {α : Sort _} (f : State → α)
    (h : ∀ r s, f (State.takeOneDeferred r s).1 = f s) (h0 : ∀ s, f (State.setDeferred [] s) = f s)
    (s : State) : f s.spendDeferred = f s := by
  have key : ∀ (l : List Deferred) (u : State),
      f (l.foldl (fun s r => (State.takeOneDeferred r s).1) u) = f u := by
    intro l
    induction l with
    | nil => exact fun _ => rfl
    | cons r l ih => exact fun u => (ih _).trans (h r u)
  exact (key _ _).trans (h0 s)

/-! ## spendDeferred -/

@[simp] theorem State.spendDeferred_pending (s : State) :
    (s.spendDeferred).pending = s.pending := 
  spendDeferred_keeps (·.pending) (fun r s => s.takeOneDeferred_pending r) (fun _ => rfl) s
@[simp] theorem State.spendDeferred_host (s : State) :
    (s.spendDeferred).host = s.host := 
  spendDeferred_keeps (·.host) (fun r s => s.takeOneDeferred_host r) (fun _ => rfl) s
@[simp] theorem State.spendDeferred_pool (s : State) :
    (s.spendDeferred).pool = s.pool := 
  spendDeferred_keeps (·.pool) (fun r s => s.takeOneDeferred_pool r) (fun _ => rfl) s
@[simp] theorem State.spendDeferred_seq (s : State) :
    (s.spendDeferred).seq = s.seq := 
  spendDeferred_keeps (·.seq) (fun r s => s.takeOneDeferred_seq r) (fun _ => rfl) s
@[simp] theorem State.spendDeferred_capture (s : State) :
    (s.spendDeferred).capture = s.capture := 
  spendDeferred_keeps (·.capture) (fun r s => s.takeOneDeferred_capture r) (fun _ => rfl) s
@[simp] theorem State.spendDeferred_stream (s : State) :
    (s.spendDeferred).stream = s.stream := 
  spendDeferred_keeps (·.stream) (fun r s => s.takeOneDeferred_stream r) (fun _ => rfl) s

end Sys2Proof.Machine
end

