-- ==== Sys2Proof/Laws/Deferred.lean ====
section
/-! SUPPORT. What taking the deferred requests does to a tape in STARTING, RUNNING or STOPPING, with the
write channel IDLE (R153, R156, R157). -/

namespace Sys2Proof.Machine

/-- From `s` to `t` the tape went on as it was or stops by its ramp; a deferred REVERSE that found BOM
present is BOM reached. -/
structure State.Spent (reverse : Prop) (s t : State) : Prop where
  dir : t.xp.dir = s.xp.dir
  timing : t.xp.timing = s.xp.timing
  levels : t.xp.levels = s.xp.levels
  wch : t.wch = .reset
  deferred : t.xp.deferred = s.xp.deferred
  pos : t.pos = s.pos ∨ t.pos = s.pos.bomReached
  reached : reverse → s.xp.levels.bom = true → t.pos = s.pos.bomReached
  kept : ¬ reverse ∨ s.xp.levels.bom = false → t.pos = s.pos
  motion : t.xp.motion = s.xp.motion ∧ t.xp.rampTimer = s.xp.rampTimer ∨
    t.xp.motion = .stopping ∧ t.xp.rampTimer = some s.xp.timing.stopRamp

/-- The tape is in STARTING or RUNNING, or in STOPPING with its whole ramp before it. -/
def State.Moving (s : State) : Prop :=
  s.xp.motion = .starting ∨ s.xp.motion = .running ∨
    s.xp.motion = .stopping ∧ s.xp.rampTimer = some s.xp.timing.stopRamp

/-- One deferred request taken while the tape moves. -/
theorem State.takeOneDeferred_spent (r : Deferred) (s : State) (hw : s.wch = .reset)
    (hm : s.Moving) : State.Spent (r = .reverse) s (s.takeOneDeferred r).1 := by
  have hq : (s.wch.phase = .block) = False := by simp [hw, WriteChannel.reset]
  have hd : ∀ s : State, s.wch = .reset → s.dropGates = s := by
    intro s h; cases s; simp at h; subst h; rfl
  rcases hm with hm | hm | ⟨hm, ht⟩ <;> cases r <;>
    simp only [State.takeOneDeferred, State.requestDir, State.requestRewind, State.requestUnload,
      State.requestLong, State.takeStop, State.takeIdle, State.takeDir, State.beginLinger, hm, hq,
      if_false] <;>
    (repeat' split) <;> constructor <;>
    simp_all [State.stopAndHold, State.stopMotion, State.enterMotion, State.hold, State.setXp,
      State.onPos, State.setPos, State.dropGates, State.setWch, WriteChannel.reset,
      State.setUnloadInd]

/-- A tape that moves still moves afterwards. -/
theorem State.Spent.moving {p : Prop} {s t : State} (h : State.Spent p s t) (hm : s.Moving) :
    t.Moving := by
  unfold State.Moving at *
  rw [h.timing]
  rcases h.motion with ⟨e, er⟩ | e
  · simpa [e, er] using hm
  · exact .inr (.inr e)

/-- Two requests taken one after the other. -/
theorem State.Spent.trans {p q : Prop} {s t u : State} (h : State.Spent p s t)
    (k : State.Spent q t u) : State.Spent (p ∨ q) s u where
  dir := k.dir.trans h.dir
  timing := k.timing.trans h.timing
  levels := k.levels.trans h.levels
  wch := k.wch
  deferred := k.deferred.trans h.deferred
  pos := by rcases h.pos with e | e <;> rcases k.pos with f | f <;> simp [f, e, Position.bomReached]
  reached := by
    intro hr hb
    by_cases hq : q
    · rcases h.pos with e | e <;> simp [k.reached hq (h.levels ▸ hb), e, Position.bomReached]
    · exact (k.kept (.inl hq)).trans (h.reached (hr.resolve_right hq) hb)
  kept := by
    intro hr
    exact (k.kept (hr.imp (fun x y => x (.inr y)) (h.levels ▸ ·))).trans
      (h.kept (hr.imp_left (fun x y => x (.inl y))))
  motion := by
    rcases k.motion with ⟨e, er⟩ | ⟨e, er⟩
    · simpa [e, er] using h.motion
    · exact .inr ⟨e, h.timing ▸ er⟩

/-- All the deferred requests taken while the tape moves (R156, R157). -/
theorem State.spendDeferred_spent (s : State) (hw : s.wch = .reset) (hm : s.Moving) :
    s.spendDeferred.xp.deferred = [] ∧ s.spendDeferred.pos = s.posSpent ∧
      State.Spent (.reverse ∈ s.xp.deferred) (s.setDeferred []) s.spendDeferred := by
  have key : ∀ (l : List Deferred) (u : State), u.wch = .reset → u.Moving →
      State.Spent (.reverse ∈ l) u (l.foldl (fun s r => (State.takeOneDeferred r s).1) u) := by
    intro l
    induction l with
    | nil => intro u hu _; constructor <;> simp [hu]
    | cons r l ih =>
      intro u hu hmu
      have h1 := u.takeOneDeferred_spent r hu hmu
      simpa [eq_comm] using h1.trans (ih _ h1.wch (h1.moving hmu))
  have k := key s.xp.deferred (s.setDeferred []) hw hm
  refine ⟨k.deferred, ?_, k⟩
  unfold State.posSpent
  split
  · next h => exact k.reached h.1 h.2
  · next h => exact k.kept (by simpa [Decidable.or_iff_not_imp_left] using h)

end Sys2Proof.Machine
end

