-- ==== Sys2Proof/Laws/Pool.lean ====
section
/-! SUPPORT. The block pool's readings after a record is put in a slot's place, and what the searches for
a FREE slot and for the two fill slots find. -/

namespace Sys2Proof.Machine

/-! ## A record put in a slot's place -/

@[simp] theorem Pool.put_data (p : Pool) (n : SlotNo) (r : SlotRecord) : (p.put n r).data = p.data := rfl
@[simp] theorem Pool.put_writeQ (p : Pool) (n : SlotNo) (r : SlotRecord) :
    (p.put n r).writeQ = p.writeQ := rfl
@[simp] theorem Pool.put_readQ (p : Pool) (n : SlotNo) (r : SlotRecord) :
    (p.put n r).readQ = p.readQ := rfl
@[simp] theorem Pool.put_tag (p : Pool) (n : SlotNo) (r : SlotRecord) : (p.put n r).tag = p.tag := rfl
@[simp] theorem Pool.put_drain (p : Pool) (n : SlotNo) (r : SlotRecord) :
    (p.put n r).drain = p.drain := rfl

/-- A slot reads as the record last put in its place, and every other slot as before. -/
theorem Pool.get_put (p : Pool) (n m : SlotNo) (r : SlotRecord) :
    (p.put n r).get m = if m = n then r else p.get m := by
  simp only [Pool.get, Pool.put, Vector.getElem_set]
  by_cases h : m = n
  · subst h; simp
  · have : n.val ≠ m.val := fun e => h (Fin.ext e.symm)
    simp [h, this]

/-- The last record put in a slot's place is the one that stays. -/
theorem Pool.put_put (p : Pool) (n : SlotNo) (r r' : SlotRecord) :
    (p.put n r).put n r' = p.put n r' := by
  simp [Pool.put]

/-- A slot's own record put back changes nothing. -/
theorem Pool.put_get (p : Pool) (n : SlotNo) : p.put n (p.get n) = p := by
  simp [Pool.put, Pool.get]

/-! ## Searches -/

theorem mem_allSlots (n : SlotNo) : n ∈ allSlots := by revert n; decide

/-- With no slot FREE, no slot is found. -/
theorem Pool.lowestFree_eq_none {p : Pool} (h : ∀ n, (p.get n).state ≠ .free) :
    p.lowestFree = none := by
  simp [Pool.lowestFree, Pool.find, h]

/-- The lowest-numbered FREE slot is the one found. -/
theorem Pool.lowestFree_eq_some {p : Pool} {n : SlotNo} (h : (p.get n).state = .free)
    (hm : ∀ m, m < n → (p.get m).state ≠ .free) : p.lowestFree = some n := by
  simp only [Pool.lowestFree, Pool.find, List.find?_eq_some_iff_append]
  have split : ∀ n : SlotNo, ∃ as bs, allSlots = as ++ n :: bs ∧ ∀ a ∈ as, a < n := by
    intro n
    refine ⟨allSlots.take n.val, allSlots.drop (n.val + 1), ?_, ?_⟩ <;> revert n <;> decide
  obtain ⟨as, bs, e, ha⟩ := split n
  exact ⟨by simp [h], as, bs, e, fun a haa => by simp [hm a (ha a haa)]⟩

/-- What the search for a FREE slot finds is FREE. -/
theorem Pool.lowestFree_state {p : Pool} {n : SlotNo} (h : p.lowestFree = some n) :
    (p.get n).state = .free := by
  simpa using List.find?_some h

/-- The host fill slot is FILLING with source HOST. -/
theorem Pool.hostFill_state {p : Pool} {n : SlotNo} (h : p.hostFill = some n) :
    (p.get n).state = .filling ∧ (p.get n).source = some .host := by
  simpa using List.find?_some h

/-- The stream fill slot is FILLING with source STREAM. -/
theorem Pool.streamFill_state {p : Pool} {n : SlotNo} (h : p.streamFill = some n) :
    (p.get n).state = .filling ∧ (p.get n).source = some .stream := by
  simpa using List.find?_some h

/-- With a slot FREE, the free count is at least 1. -/
theorem Pool.freeCount_pos {p : Pool} {n : SlotNo} (h : (p.get n).state = .free) :
    0 < p.freeCount := by
  simp only [Pool.freeCount, List.length_pos_iff, ne_eq, List.filter_eq_nil_iff, not_forall]
  exact ⟨n, mem_allSlots n, by simp [h]⟩

end Sys2Proof.Machine
end

