-- ==== Sys2Proof/Tests/Slice0.lean ====
section
/-! SUPPORT. Small tests: the ill-formed terms that the checks refuse, values that the manual works out, one
step of some commands, and for each statement with hypotheses a state that meets them. -/

namespace Sys2Proof.Tests

open Sys2Proof.Machine

-- The kernel takes these one after another; many at a time would each hold a thread.
set_option Elab.async false

/-! ## Ill-formed terms -/

/-- 01h is START's code, so no unknown one (Codes). -/
theorem test_unknownCode_refuses_a_code : (Instr.unknownCode 0x01).wellFormed = false := by decide

/-- LISTPTR's offset has a write of its own. -/
theorem test_otherWrite_refuses_listptr :
    (Instr.otherRegisterWrite 0x06 0).wellFormed = false := by decide

/-- DATA's offset has a read of its own. -/
theorem test_otherRead_refuses_data : (Instr.otherRegisterRead 0x0A).wellFormed = false := by decide

/-- The table gives no row bits, so no word spells a command. -/
theorem test_no_word_spells_a_command : decodeTableWord 8 0 = none := by decide

/-! ## Values that the manual works out -/

/-- The check value of the cyclic check over the nine characters 123456789 is 29B1h (R8). -/
theorem test_crc_check_value :
    crcOf [0x31, 0x32, 0x33, 0x34, 0x35, 0x36, 0x37, 0x38, 0x39] = 0x29B1 := by
  decide +kernel

/-- The same computation over the two recorded check bytes leaves the register at 0000h (R8). -/
theorem test_crc_of_checked_bytes :
    crcOf [0x31, 0x32, 0x33, 0x34, 0x35, 0x36, 0x37, 0x38, 0x39, 0x29, 0xB1] = 0 := by
  decide +kernel

/-- A byte with an even number of ones has its row check bit 1, and one with an odd number 0 (R1). -/
theorem test_row_check_bit : rowOf 0x00 = 0x100 ∧ rowOf 0x01 = 0x001 ∧ rowOf 0xFF = 0x1FF := by
  decide

/-- With F = 5 from an accumulator of 0, the first seven intervals leave 5, 10, 15, 4, 9, 14 and 3, the
fourth and the seventh long (R174). -/
theorem test_pacing_table :
    let p : StreamPort := { StreamPort.reset with fraction := 5 }
    let q := p.interval.interval.interval
    q.acc = 15 ∧ q.longInterval = false ∧ q.interval.acc = 4 ∧ q.interval.longInterval = true ∧
      q.interval.interval.interval.interval.acc = 3 ∧
      q.interval.interval.interval.interval.longInterval = true := by decide

/-! ## Small states -/

/-- A drive with a cartridge loaded and writable, the tape at rest between its markers, and a list that may
run. -/
def live : State :=
  { State.reset with
    xp := { State.reset.xp with
      motion := .stopped
      levels := { present := true, ready := true, wpermit := true, bom := false, ew := false,
                  eom := false } }
    pos := { zone := .inData, file := some 1, block := some 2, map := [(0, 5)] } }

/-- The transport in a motion state. -/
def tape (m : Motion) (d : Dir) (s : State) : State :=
  s.setXp { s.xp with motion := m, dir := d, rampTimer := some 1, lingerTimer := some 1, rewindTimer := some 1,
                      blankTimer := some 1 }

/-- The drive's levels. -/
def levels (f : Levels → Levels) (s : State) : State := s.setXp { s.xp with levels := f s.xp.levels }

/-- The sequencer in a state with a piece of work. -/
def works (st : SeqState) (w : Work) (s : State) : State :=
  s.setSeq { s.seq with state := st, work := w }

/-- Entry M0 in list memory. -/
def entry (op count flags budget : Byte) (s : State) : State :=
  s.setSeq { s.seq with
    listMem := ((((s.seq.listMem.write 0 op).write 1 count).write 2 flags).write 3 budget) }

/-- A second entry, M1, after M0. -/
def andThen (op : Byte) (s : State) : State :=
  s.setSeq { s.seq with
    listMem := s.seq.listMem.write 4 op, ctl := { s.seq.ctl with mainLength := 2 } }

/-- The list in CYCLE mode. -/
def cycles (s : State) : State := s.setSeq { s.seq with ctl := { s.seq.ctl with cycle := true } }

/-- The stop indication set. -/
def stopped (s : State) : State := s.setSeq { s.seq with stopInd := true }

/-- A record in a slot's place. -/
def slot (n : SlotNo) (st : SlotState) (src : Source) (len : Nat) (s : State) : State :=
  s.setPool (s.pool.put n
    { SlotRecord.free with state := st, source := some src, kind := some .data, tag := some 7, length := len })

/-- No slot FREE. -/
def full (s : State) : State :=
  [0, 1, 2, 3, 4, 5, 6, 7].foldl (fun s n => slot n .held .host 1 s) s

/-- The write queue. -/
def queued (q : List SlotNo) (s : State) : State :=
  (q.foldl (fun s n => slot n .queued .host 1 s) s).setPool
    { (q.foldl (fun s n => slot n .queued .host 1 s) s).pool with writeQ := q }

/-- The read queue, with the drain cursor. -/
def ready (q : List SlotNo) (len drain : Nat) (s : State) : State :=
  (q.foldl (fun s n => slot n .ready .medium len s) s).setPool
    { (q.foldl (fun s n => slot n .ready .medium len s) s).pool with readQ := q, drain := drain }

/-- CMDARG. -/
def arg (b : Byte) (s : State) : State := s.setHost { s.host with cmdarg := b }

/-- A result. -/
def aResult (o : EntryOutcome) : Result :=
  { index := 0, op := 1, outcome := o, record := .clear, cycle := 0, file := some 1, block := none }

/-- Results in the result queue, and RESPTR. -/
def results (k : Nat) (p : Fin 12) (s : State) : State :=
  s.setHost { s.host with results := List.replicate k (aResult .done), resptr := p }

/-- A result of an outcome that waits for room. -/
def pends (o : EntryOutcome) (s : State) : State :=
  works .postWait .none (s.setSeq { s.seq with pendingResult := some (aResult o) })

/-- A terminal result that waits for room. -/
def waits (s : State) : State := pends .eomMet s

/-- The stream port in a state, with a number of bits of its word taken. -/
def port (st : PortState) (master : Bool) (bits edges : Nat) (s : State) : State :=
  s.setStream { s.stream with
    state := st, master := master, bits := List.replicate bits true, edges := edges }

/-- The stream reserve. -/
def reserve (k : Nat) (s : State) : State := s.setStream { s.stream with reserve := k }

/-- A write unit. -/
def aUnit (t : WTarget) (k : BlockKind) (tag : Option Byte) : WUnit :=
  { target := t, kind := k, tag := tag, reattempt := false, verify := true, framePeriod := 50 }

/-- A verify record of thirteen frames, its watch in a state. -/
def aVerify (w : Watch) (compared silent : Nat) : Verify :=
  { Verify.ofFrames (List.replicate 13 (rowOf 0xAA)) with
    written := 13, watch := w, compared := compared, lastSilent := decide (0 < silent),
    silentRun := silent, silence := 4 }

/-- The write channel in a phase with a unit. -/
def channel (ph : WPhase) (u : Option WUnit) (v : Option Verify) (s : State) : State :=
  s.setWch { s.wch with phase := ph, unit := u, verify := v }

/-- The failure episode of a WRITE slot. -/
def anEpisode (n : SlotNo) : Episode :=
  { kind := .write, slot := some n, tag := some 7, budget := 0, attempts := 255, cur := none,
    last := .failed }

/-! ## One step of some commands -/

/-- The state a command leaves. -/
def after (c : Instr) (s : State) : State :=
  match exec c s with
  | .next t => t
  | _ => s

/-- CLAIM grants the lowest-numbered FREE slot, and is then refused with FILL_OPEN (R33). -/
theorem test_claim :
    (after .claim live).pool.hostFill = some 0 ∧
      (after .claim (after .claim live)).host.cmdstat = .fillOpen := by decide +kernel

/-- The tag counter advances from 255 to 0 (R25). -/
theorem test_tag_wraps :
    (after .queueMark (after (.tagWrite 0xFF) live)).pool.tag = 0 ∧
      ((after .queueMark (after (.tagWrite 0xFF) live)).slot 0).tag = some 0xFF := by decide +kernel

/-- A LISTPTR above 47 is stored as 47 with CLAMPED, and LISTDATA then goes on at 0 (R45). -/
theorem test_listptr_clamps :
    (after (.listptrWrite 48) live).seq.listptr = 47 ∧
      (after (.listptrWrite 48) live).hostFlag .clamped = true ∧
      (after (.listdataWrite 9) (after (.listptrWrite 48) live)).seq.listptr = 0 := by
  decide +kernel

/-- A list memory of zeros holds no operation at M0: START is refused with BAD_LIST and index 0 (R56). -/
theorem test_start_of_zeros :
    (after .start live).host.cmdstat = .badList ∧ (after .start live).host.cmdIndex = 0 ∧
      (after .start live).seq.state = .idle := by decide +kernel

/-- A WRITE entry waits for the empty write queue, and QUEUE_MARK then starts the tape (R26, R36, R48). -/
theorem test_write_waits_for_the_queue :
    (after .start (entry 1 1 1 0 live)).seq.work = .waitHead ∧
      (after .queueMark (after .start (entry 1 1 1 0 live))).seq.work = .writeSlot 0 ∧
      (after .queueMark (after .start (entry 1 1 1 0 live))).xp.motion = .starting := by
  decide +kernel

/-- A WRITE unit asked for with EOM present takes no slot: the entry ends EOM_MET (R156). -/
theorem test_eom_before_the_unit :
    let s := levels (fun l => { l with eom := true }) (works .running .waitHead (entry 1 1 1 0 live))
    (after .queueMark s).pool.writeQ = [0] ∧ ((after .queueMark s).slot 0).state = .queued ∧
      ((after .queueMark s).host.results.map (·.outcome)) = [.eomMet] := by decide +kernel

/-- A REWIND from STOPPED starts the fast run, and the position is UNKNOWN until BOM (R145, R160). -/
theorem test_rewind :
    (after .start (entry 9 0 0 0 live)).xp.motion = .rewinding ∧
      (after .start (entry 9 0 0 0 live)).pos.zone = .unknown ∧
      (after .bomRise (after .start (entry 9 0 0 0 live))).pos.zone = .atBom := by decide +kernel

/-- A reverse mark to a file that the map holds takes up its block count (R142). -/
theorem test_reverse_mark : (Position.reverseReport .mark live.pos).block = some 5 := by decide

/-! ## For each statement with hypotheses, states that meet them -/

theorem witness_StepPerformsFrontCommand :
    (∃ (c : Instr) (rest : List Instr) (s : State), s.pending = c :: rest) ∧
      ∃ s : State, s.pending = [] :=
  ⟨⟨.start, [.stop], { live with pending := [.start, .stop] }, rfl⟩, live, rfl⟩

theorem witness_SmallRegisterWrites :
    (∃ (off : BitVec 5) (b : Byte),
      (Instr.otherRegisterWrite off b).wellFormed = true ∧ off ≠ 0x01) ∧
    (∃ code : Byte, (Instr.unknownCode code).wellFormed = true) :=
  ⟨⟨0x1D, 0, by decide⟩, 0x00, by decide⟩

theorem witness_CountAndPositionReads :
    (∃ (s : State) (n : SlotNo), s.pool.hostFill = some n) ∧ (∃ s : State, s.pool.hostFill = none) ∧
    (∃ (s : State) (n : SlotNo) (q : List SlotNo), s.pool.readQ = n :: q) ∧
    ∃ s : State, s.pool.readQ = [] :=
  ⟨⟨slot 7 .filling .host 1024 live, 7, by decide +kernel⟩, ⟨live, by decide +kernel⟩,
    ⟨ready [7] 3 3 live, 7, [], by decide +kernel⟩, live, by decide +kernel⟩

theorem witness_StatusSequencesReadOneMoment :
    (∃ q : Sequencer, q.work = .waitHead ∧ q.episode = none) ∧
    (∃ q : Sequencer, q.work = .waitSlot ∧ q.episode = none) ∧
    (∃ (q : Sequencer) (e : Episode), q.episode = some e ∧ e.cur = none ∧ e.slot = none) ∧
    (∃ (q : Sequencer) (e : Episode) (i : Fin 4) (n : SlotNo), q.episode = some e ∧ e.cur = some i ∧
      i = 3 ∧ e.slot = some n ∧ n = 7) ∧
    (∃ s : State, s.host.seqIx = 0) ∧ (∃ s : State, s.host.seqIx ≠ 0) ∧
    (∃ s : State, s.host.xpIx = 0) ∧ ∃ s : State, s.host.xpIx ≠ 0 :=
  ⟨⟨(works .running .waitHead live).seq, rfl, rfl⟩, ⟨(works .running .waitSlot live).seq, rfl, rfl⟩,
    ⟨(live.setEpisode (some { anEpisode 0 with kind := .mark, slot := none })).seq, _, rfl, rfl, rfl⟩,
    ⟨(live.setEpisode (some { anEpisode 7 with cur := some 3 })).seq, _, 3, 7, rfl, rfl, rfl, rfl, rfl⟩,
    ⟨live, rfl⟩, ⟨live.setHost { live.host with seqIx := 4 }, by decide +kernel⟩, ⟨live, rfl⟩,
    live.setHost { live.host with xpIx := 2 }, by decide +kernel⟩

/-- SLOTPTR at a record and a byte index. -/
def slotptr (sel : Fin 9) (ix : Fin 16) (s : State) : State :=
  s.setHost { s.host with slotSel := sel, slotIx := ix }

theorem witness_SlotRecordWindow :
    (∃ p : Pool, p.hostFill = none ∧ p.streamFill = none) ∧
    (∃ (p : Pool) (n m : SlotNo), p.hostFill = some n ∧ n = 7 ∧ p.streamFill = some m ∧ m = 0) ∧
    (∃ (b : Byte) (sel : Fin 9) (ix : Fin 16), sel.val = min (b.toNat / 16) 8 ∧
      ix.val = b.toNat % 16 ∧ 8 < b.toNat / 16) ∧
    (∃ (b : Byte) (sel : Fin 9) (ix : Fin 16), sel.val = min (b.toNat / 16) 8 ∧
      ix.val = b.toNat % 16 ∧ b.toNat / 16 = 8) ∧
    (∃ s : State, s.host.slotSel = 8) ∧
    (∃ (s : State) (n : SlotNo), s.host.slotSel.val = n.val ∧
      s.host.slotIx ∉ ([2, 3, 7, 8, 9, 10] : List (Fin 16))) ∧
    (∀ x ∈ ([(2, 0), (7, 1), (9, 2)] : List (Fin 16 × Fin 3)), ∃ (s : State) (n : SlotNo),
      s.host.slotSel.val = n.val ∧ s.host.slotIx = x.1) ∧
    ∀ x ∈ ([(3, 0), (8, 1), (10, 2)] : List (Fin 16 × Fin 3)), ∃ (s : State) (n : SlotNo),
      s.host.slotSel.val = n.val ∧ s.host.slotIx = x.1 :=
  ⟨⟨live.pool, by decide +kernel⟩,
    ⟨(slot 0 .filling .stream 2 (slot 7 .filling .host 1 live)).pool, 7, 0, by decide +kernel⟩,
    ⟨0xFF, 8, 15, by decide⟩, ⟨0x80, 8, 0, by decide⟩,
    ⟨slotptr 8 15 live, rfl⟩, ⟨slotptr 7 15 live, 7, by decide +kernel⟩,
    fun x _ => ⟨slotptr 7 x.1 live, 7, rfl, rfl⟩, fun x _ => ⟨slotptr 0 x.1 live, 0, rfl, rfl⟩⟩

theorem witness_ResultWindow :
    (∃ s : State, s.host.results = []) ∧
    (∃ (s : State) (r : Result) (q : List Result), s.host.results = r :: q ∧
      s.host.resptr ∉ ([8, 9, 10, 11] : List (Fin 12))) ∧
    (∃ (s : State) (r : Result) (q : List Result), s.host.results = r :: q ∧ s.host.resptr = 8) ∧
    (∃ (s : State) (r : Result) (q : List Result), s.host.results = r :: q ∧ s.host.resptr = 9) ∧
    (∃ (s : State) (r : Result) (q : List Result), s.host.results = r :: q ∧ s.host.resptr = 10) ∧
    ∃ (s : State) (r : Result) (q : List Result), s.host.results = r :: q ∧ s.host.resptr = 11 :=
  ⟨⟨live, rfl⟩, ⟨results 1 7 live, aResult .done, [], by decide +kernel⟩,
    ⟨results 1 8 live, aResult .done, [], by decide +kernel⟩,
    ⟨results 1 9 live, aResult .done, [], by decide +kernel⟩,
    ⟨results 1 10 live, aResult .done, [], by decide +kernel⟩,
    results 1 11 live, aResult .done, [], by decide +kernel⟩

theorem witness_CaptureWindow :
    (∃ c : Capture, c.slot = none ∧ c.expected = none) ∧
    (∃ (c : Capture) (n : SlotNo), c.slot = some n ∧ n = 7 ∧ c.expected = some 0x1FF) ∧
    (∃ s : State, s.host.capptr = 0) ∧ ∃ s : State, s.host.capptr ≠ 0 :=
  ⟨⟨{ kind := .mark, slot := none, index := 0, expected := none, strict := 0, lenient := 0, cls := none },
      rfl, rfl⟩,
    ⟨{ kind := .write, slot := some 7, index := 1043, expected := some 0x1FF, strict := 0x1FF, lenient := 0,
       cls := some .failed }, 7, rfl, rfl, rfl⟩,
    ⟨live, rfl⟩, live.setHost { live.host with capptr := 6 }, by decide +kernel⟩

theorem witness_OtherRegisterReads :
    ∃ off : BitVec 5, (Instr.otherRegisterRead off).wellFormed = true := ⟨0x1F, by decide⟩

theorem witness_ResultQueueAdvances :
    (∃ s : State, s.host.results = []) ∧
    (∃ (s : State) (r : Result) (q : List Result), s.host.results = r :: q ∧
      s.seq.pendingResult = none) ∧
    (∃ (s : State) (r : Result) (q : List Result) (p : Result), s.host.results = r :: q ∧
      q.length < 16 ∧ s.seq.pendingResult = some p ∧ s.seq.state = .postWait ∧
      p.outcome.terminal = true) ∧
    (∃ (s : State) (p : Result), s.seq.pendingResult = some p ∧ s.host.results.length < 16 ∧
      s.seq.state = .postWait ∧ p.outcome.terminal = true) ∧
    (∃ s : State, s.seq.pendingResult = none) ∧
    ∃ s : State, 16 ≤ s.host.results.length :=
  ⟨⟨live, rfl⟩, ⟨results 1 11 live, aResult .done, [], by decide +kernel⟩,
    ⟨waits (results 16 11 live), aResult .done, List.replicate 15 (aResult .done), aResult .eomMet,
      by decide +kernel⟩,
    ⟨waits (results 15 0 live), aResult .eomMet, by decide +kernel⟩, ⟨live, rfl⟩,
    waits (results 16 0 live), by decide +kernel⟩

/-- The list goes on after POST_WAIT, from STOPPED or RUNNING, to M1 or in CYCLE mode to M0; or it ends
STOPPED. In ABORTING the post finds the tape at rest or moving. -/
theorem witness_ResultQueueAdvances_entries :
    (∀ o ∈ [EntryOutcome.done, .fileMarkMet, .bomMet, .blankMet, .ewMet],
      ∀ m ∈ [Motion.stopped, .running], ∃ (s : State) (p : Result), s.seq.pendingResult = some p ∧
        s.host.results.length < 16 ∧ s.seq.state = .postWait ∧ p.outcome = o ∧
        s.entry.haltOnShort = false ∧ s.seq.stopInd = false ∧ s.passFollows (.seek .forward) ∧
        s.xp.levels.eom = false ∧ s.xp.motion = m ∧ s.xp.dir = .forward) ∧
    (∃ (s : State) (p : Result), s.seq.pendingResult = some p ∧ s.host.results.length < 16 ∧
      s.seq.state = .postWait ∧ p.outcome = .done ∧ s.seq.stopInd = false ∧
      s.seq.ctl.mainLength = 1 ∧ s.passFollows (.space .forward) ∧ s.xp.levels.eom = false ∧
      s.xp.motion = .stopped) ∧
    (∃ (s : State) (p : Result), s.seq.pendingResult = some p ∧ s.host.results.length < 16 ∧
      s.seq.state = .postWait ∧ p.outcome = .done ∧ s.seq.stopInd = true ∧ s.entryFollows) ∧
    (∀ m ∈ [Motion.stopped, .noCartridge, .stopping], ∃ (s : State) (p : Result),
      s.seq.pendingResult = some p ∧ s.host.results.length < 16 ∧ s.seq.state = .aborting ∧
      s.xp.motion = m) ∧
    ∃ (s : State) (r : Result) (q : List Result) (p : Result), s.host.results = r :: q ∧
      q.length < 16 ∧ s.seq.pendingResult = some p ∧ s.seq.state = .aborting :=
  ⟨fun o ho m hm => ⟨pends o (tape m .forward (andThen 6 (results 15 0 live))), aResult o,
      by revert o m; decide +kernel⟩,
    ⟨pends .done (cycles (entry 4 1 4 0 live)), aResult .done, by decide +kernel⟩,
    ⟨pends .done (stopped (andThen 6 live)), aResult .done, by decide +kernel⟩,
    fun m hm => ⟨(pends .aborted (tape m .forward (results 15 0 live))).setSeqState .aborting,
      aResult .aborted, by revert m; decide +kernel⟩,
    (pends .aborted (results 16 11 live)).setSeqState .aborting, aResult .done,
    List.replicate 15 (aResult .done), aResult .aborted, by decide +kernel⟩

theorem witness_ListMemoryAccess :
    (∃ s : State, s.seq.state = .idle ∧ s.seq.listMem.wf = true) ∧
    (∃ s : State, s.seq.state ≠ .idle) ∧
    ∃ s : State, s.seq.state = .idle ∧ 0 < s.seq.ctl.mainLength ∧ ∀ k, s.seq.listMem.read k = 0 :=
  ⟨⟨entry 4 1 0 7 live, by decide +kernel⟩, ⟨works .running .none live, by decide +kernel⟩,
    live, by decide, by decide, fun _ => rfl⟩

theorem witness_ListSettingsWrite :
    (∃ s : State, s.seq.state = .idle) ∧ ∃ s : State, s.seq.state ≠ .idle :=
  ⟨⟨live, rfl⟩, works .aborting .none live, by decide +kernel⟩

theorem witness_TimingTableAccess :
    (∃ s : State, s.seq.state = .idle) ∧ ∃ s : State, s.seq.state ≠ .idle :=
  ⟨⟨live, rfl⟩, works .postWait .none live, by decide +kernel⟩

theorem witness_ClaimOpensTheLowestFreeSlot :
    (∃ s : State, s.pool.hostFill ≠ none) ∧
    (∃ s : State, s.pool.hostFill = none ∧ ∀ n, (s.slot n).state ≠ .free) ∧
    ∃ (s : State) (n : SlotNo), s.pool.hostFill = none ∧ (s.slot n).state = .free ∧
      ∀ m, m < n → (s.slot m).state ≠ .free :=
  ⟨⟨slot 0 .filling .host 0 live, by decide +kernel⟩, ⟨full live, by decide +kernel⟩,
    slot 7 .free .host 0 (full live), 7, by decide +kernel⟩

theorem witness_DataWriteFillsTheHostSlot :
    (∃ (s : State) (n : SlotNo), s.pool.hostFill = some n ∧ (s.slot n).length < 1024 ∧
      s.pool.data.wf = true) ∧
    (∃ s : State, s.pool.hostFill = none) ∧
    ∃ (s : State) (n : SlotNo), s.pool.hostFill = some n ∧ 1024 ≤ (s.slot n).length :=
  ⟨⟨slot 7 .filling .host 1023 live, 7, by decide +kernel⟩, ⟨live, by decide +kernel⟩,
    slot 0 .filling .host 1024 live, 0, by decide +kernel⟩

theorem witness_QueueingTakesTags :
    (∃ s : State, s.pool.hostFill = none) ∧
    (∃ (s : State) (n : SlotNo), s.pool.hostFill = some n ∧ (s.slot n).length = 0) ∧
    (∃ (s : State) (n : SlotNo), s.pool.hostFill = some n ∧ (s.slot n).length ≠ 0 ∧
      s.seq.work ≠ .waitHead) ∧
    (∃ s : State, ∀ n, (s.slot n).state ≠ .free) ∧
    (∃ (s : State) (n : SlotNo), (s.slot n).state = .free ∧
      (∀ m, m < n → (s.slot m).state ≠ .free) ∧ s.seq.work ≠ .waitHead) ∧
    (∃ (s : State) (n : SlotNo), s.pool.hostFill = some n ∧ (s.slot n).length ≠ 0 ∧
      s.seq.state = .running ∧ s.seq.work = .waitHead) ∧
    (∃ (s : State) (n : SlotNo), (s.slot n).state = .free ∧
      (∀ m, m < n → (s.slot m).state ≠ .free) ∧ s.seq.state = .running ∧
      s.seq.work = .waitHead) ∧
    (∃ s : State, s.pool.writeQ = []) ∧ ∃ s : State, s.pool.writeQ ≠ [] :=
  ⟨⟨live, by decide +kernel⟩, ⟨slot 0 .filling .host 0 live, 0, by decide +kernel⟩,
    ⟨slot 0 .filling .host 1 live, 0, by decide +kernel⟩, ⟨full live, by decide +kernel⟩,
    ⟨slot 7 .free .host 0 (full live), 7, by decide +kernel⟩,
    ⟨works .running .waitHead (slot 7 .filling .host 1024 (entry 1 0 1 0 live)), 7, by decide +kernel⟩,
    ⟨works .running .waitHead (slot 7 .free .host 0 (full (entry 1 0 1 0 live))), 7,
      by decide +kernel⟩,
    ⟨live, rfl⟩, queued [3] live, by decide +kernel⟩

theorem witness_HostCommandsFreeASlot :
    (∃ s : State, s.pool.hostFill = none) ∧
    (∃ (s : State) (n : SlotNo), s.pool.hostFill = some n ∧ s.seq.work ≠ .waitSlot ∧
      s.stream.state ≠ .starved) ∧
    (∃ s : State, s.pool.readQ = []) ∧
    (∃ (s : State) (n : SlotNo) (q : List SlotNo), s.pool.readQ = n :: q ∧
      (s.slot n).state = .ready ∧ s.seq.work ≠ .waitSlot ∧ s.stream.state ≠ .starved) ∧
    (∃ (s : State) (n : SlotNo), s.host.cmdarg.toNat = n.val ∧ (s.slot n).state = .held ∧
      s.seq.work ≠ .waitSlot ∧ s.stream.state ≠ .starved) ∧
    (∃ (s : State) (n : SlotNo), s.pool.hostFill = some n ∧ s.seq.state = .running ∧
      s.seq.work = .waitSlot ∧ (∀ m, (s.slot m).state ≠ .free) ∧ s.xp.levels.eom = false ∧
      s.xp.motion = .stopped) ∧
    (∃ (s : State) (n : SlotNo) (q : List SlotNo), (s.slot n).state = .ready ∧
      s.pool.readQ = n :: q ∧ s.seq.state = .running ∧ s.seq.work = .waitSlot ∧
      (∀ m, (s.slot m).state ≠ .free) ∧ s.xp.levels.eom = false ∧ s.xp.motion = .running ∧
      s.xp.dir = .forward ∧ s.stream.state = .starved) ∧
    (∃ (s : State) (n : SlotNo), s.host.cmdarg.toNat = n.val ∧ (s.slot n).state = .held ∧
      s.seq.work ≠ .waitSlot ∧ s.stream.state = .starved ∧
      s.pool.freeCount < s.stream.reserve) ∧
    (∃ (s : State) (n m : SlotNo), s.host.cmdarg.toNat = n.val ∧ (s.slot n).state = .held ∧
      s.seq.work ≠ .waitSlot ∧ s.stream.state = .starved ∧ s.stream.reserve ≤ s.pool.freeCount ∧
      m = n ∧ ∀ k, k < m → k ≠ n ∧ (s.slot k).state ≠ .free) ∧
    ∃ (s : State) (n m : SlotNo), s.host.cmdarg.toNat = n.val ∧ (s.slot n).state = .held ∧
      s.seq.work ≠ .waitSlot ∧ s.stream.state = .starved ∧ s.stream.reserve ≤ s.pool.freeCount ∧
      (s.slot m).state = .free ∧ ∀ k, k < m → k ≠ n ∧ (s.slot k).state ≠ .free :=
  ⟨⟨live, by decide +kernel⟩, ⟨slot 7 .filling .host 0 (full live), 7, by decide +kernel⟩,
    ⟨live, rfl⟩, ⟨ready [5, 6] 9 9 live, 5, [6], by decide +kernel⟩,
    ⟨arg 7 (full live), 7, by decide +kernel⟩,
    ⟨works .running .waitSlot (slot 7 .filling .host 0 (full live)), 7, by decide +kernel⟩,
    ⟨works .running .waitSlot (tape .running .forward (ready [5] 9 9 (full (port .starved false 0 0 live)))),
      5, [], by decide +kernel⟩,
    ⟨arg 7 (full (reserve 1 (port .starved false 0 0 live))), 7, by decide +kernel⟩,
    ⟨arg 0 (full (reserve 0 (port .starved false 0 0 live))), 0, 0, by decide +kernel⟩,
    arg 7 (slot 6 .free .host 0 (full (reserve 1 (port .starved false 0 0 live)))), 7, 6,
    by decide +kernel⟩

theorem witness_DataReadDrainsTheHead :
    (∃ (s : State) (n : SlotNo) (q : List SlotNo), s.pool.readQ = n :: q ∧
      s.pool.drain < (s.slot n).length) ∧
    (∃ s : State, s.pool.readQ = []) ∧
    ∃ (s : State) (n : SlotNo) (q : List SlotNo), s.pool.readQ = n :: q ∧
      (s.slot n).length ≤ s.pool.drain :=
  ⟨⟨ready [7] 1024 1023 live, 7, [], by decide +kernel⟩, ⟨live, rfl⟩,
    ready [7] 0 0 live, 7, [], by decide +kernel⟩

theorem witness_HeldSlotCommands :
    (∃ s : State, ∀ n : SlotNo, s.host.cmdarg.toNat = n.val → (s.slot n).state ≠ .held) ∧
    (∃ (s : State) (n : SlotNo), s.host.cmdarg.toNat = n.val ∧ (s.slot n).state = .held ∧
      s.seq.work ≠ .waitHead) ∧
    (∃ (s : State) (n : SlotNo), s.host.cmdarg.toNat = n.val ∧ (s.slot n).state = .held ∧
      s.seq.state = .running ∧ s.seq.work = .waitHead) ∧
    ∃ (s : State) (n : SlotNo), s.host.cmdarg.toNat = n.val ∧ (s.slot n).state = .held :=
  ⟨⟨arg 8 (full live), by decide +kernel⟩, ⟨arg 7 (full live), 7, by decide +kernel⟩,
    ⟨works .running .waitHead (arg 7 (full (entry 1 0 1 0 live))), 7, by decide +kernel⟩,
    arg 0 (full live), 0, by decide +kernel⟩

theorem witness_ReadClaimIsServed :
    (∃ (s : State) (n : SlotNo), s.seq.state = .running ∧ s.seq.work = .waitSlot ∧
      (s.slot n).state = .free ∧ (∀ m, m < n → (s.slot m).state ≠ .free) ∧
      s.xp.motion = .stopped ∧ s.xp.levels.eom = false) ∧
    (∃ s : State, ∀ n, (s.slot n).state ≠ .free) ∧ ∃ s : State, s.seq.work ≠ .waitSlot :=
  ⟨⟨works .running .waitSlot (slot 7 .free .host 0 (full live)), 7, by decide +kernel⟩,
    ⟨full live, by decide +kernel⟩, live, by decide +kernel⟩

theorem witness_WaitingHeadIsTaken :
    (∃ (s : State) (n : SlotNo) (q : List SlotNo), s.seq.state = .running ∧
      s.seq.work = .waitHead ∧ s.pool.writeQ = n :: q ∧ s.entry.opcode = 0x01 ∧
      s.xp.levels.wpermit = true ∧ s.pos.zone ≠ .unknown ∧ s.xp.levels.eom = false ∧
      s.xp.motion = .stopped ∧ s.wch.phase = .idle) ∧
    (∀ x ∈ [(false, Zone.inData, false), (true, .unknown, true), (true, .pastEw, true)], ∃ s : State,
      s.seq.state = .running ∧ s.seq.work = .waitHead ∧ s.pool.writeQ ≠ [] ∧
      s.entry.opcode = 0x01 ∧ s.host.results.length < 16 ∧ s.xp.motion = .stopped ∧
      s.xp.levels.wpermit = x.1 ∧ s.pos.zone = x.2.1 ∧ s.xp.levels.eom = x.2.2) ∧
    (∃ s : State, s.pool.writeQ = []) ∧ ∃ s : State, s.seq.work ≠ .waitHead :=
  ⟨⟨works .running .waitHead (queued [4, 0] (entry 1 0 1 0 live)), 4, [0], by decide +kernel⟩,
    fun x hx => ⟨levels (fun l => { l with wpermit := x.1, eom := x.2.2 })
      ((works .running .waitHead (queued [4, 0] (entry 1 0 1 0 (results 15 0 live)))).setPos
        { live.pos with zone := x.2.1 }), by revert x; decide +kernel⟩,
    ⟨live, rfl⟩, live, by decide +kernel⟩

theorem witness_StreamSettingWrites :
    (∃ s : State, s.stream.state = .off) ∧ ∃ s : State, s.stream.state ≠ .off :=
  ⟨⟨live, rfl⟩, port .starved false 0 0 live, by decide +kernel⟩

theorem witness_StreamClaims :
    (∃ s : State, s.stream.state ≠ .off) ∧
    (∃ s : State, s.stream.state = .off ∧ s.stream.strlen % 2 = 1) ∧
    (∃ (s : State) (n : SlotNo), s.stream.state = .off ∧ s.stream.strlen % 2 = 0 ∧
      s.stream.reserve < s.pool.freeCount ∧ (s.slot n).state = .free ∧
      (∀ m, m < n → (s.slot m).state ≠ .free) ∧ s.stream.fraction < 16 ∧ s.stream.master = true) ∧
    (∃ s : State, s.stream.state = .off ∧ s.stream.strlen % 2 = 0 ∧
      s.pool.freeCount ≤ s.stream.reserve ∧ s.stream.fraction < 16 ∧ s.stream.master = true) ∧
    (∃ (s : State) (n : SlotNo), s.stream.state = .starved ∧ s.stream.reserve < s.pool.freeCount ∧
      (s.slot n).state = .free ∧ ∀ m, m < n → (s.slot m).state ≠ .free) ∧
    (∃ s : State, s.stream.state = .starved ∧ s.pool.freeCount ≤ s.stream.reserve) ∧
    ∃ s : State, s.stream.state ≠ .starved :=
  ⟨⟨port .filling false 0 0 live, by decide +kernel⟩,
    ⟨live.setStream { live.stream with strlen := 1023 }, by decide +kernel⟩,
    ⟨(port .off true 0 0 live).setStream { (port .off true 0 0 live).stream with fraction := 15 }, 0,
      by decide +kernel⟩,
    ⟨slot 7 .free .host 0 (full (port .off true 0 0 live)), by decide +kernel⟩,
    ⟨slot 6 .free .host 0 (slot 7 .free .host 0 (full (port .starved false 0 0 live))), 6,
      by decide +kernel⟩,
    ⟨slot 7 .free .host 0 (full (port .starved false 0 0 live)), by decide +kernel⟩,
    live, by decide +kernel⟩

theorem witness_StreamOffSettlesTheFillSlot :
    (∃ s : State, s.stream.state = .off) ∧
    (∃ s : State, s.stream.state ≠ .off ∧ s.pool.streamFill = none) ∧
    (∃ (s : State) (n : SlotNo), s.stream.state ≠ .off ∧ s.pool.streamFill = some n ∧
      2 ≤ (s.slot n).length ∧ s.seq.work ≠ .waitHead) ∧
    (∃ (s : State) (n : SlotNo), s.stream.state ≠ .off ∧ s.pool.streamFill = some n ∧
      (s.slot n).length < 2 ∧ s.seq.work ≠ .waitSlot) ∧
    (∃ (s : State) (n : SlotNo), s.stream.state ≠ .off ∧ s.pool.streamFill = some n ∧
      2 ≤ (s.slot n).length ∧ s.seq.state = .running ∧ s.seq.work = .waitHead) ∧
    (∃ (s : State) (n : SlotNo), s.stream.state ≠ .off ∧ s.pool.streamFill = some n ∧
      (s.slot n).length < 2 ∧ s.seq.state = .running ∧ s.seq.work = .waitSlot ∧
      (∀ m, (s.slot m).state ≠ .free) ∧ s.xp.levels.eom = false ∧ s.xp.motion = .stopped) ∧
    ∃ (s : State) (n : SlotNo), s.stream.state ≠ .off ∧ s.pool.streamFill = some n ∧
      (s.slot n).length < 2 ∧ s.seq.state = .running ∧ s.seq.work = .waitSlot ∧
      (∀ m, (s.slot m).state ≠ .free) ∧ s.xp.levels.eom = false ∧ s.xp.motion = .running ∧
      s.xp.dir = .forward :=
  ⟨⟨live, rfl⟩, ⟨port .starved false 0 0 live, by decide +kernel⟩,
    ⟨slot 2 .filling .stream 2 (port .filling false 3 0 live), 2, by decide +kernel⟩,
    ⟨slot 2 .filling .stream 0 (port .filling false 3 0 live), 2, by decide +kernel⟩,
    ⟨works .running .waitHead (slot 2 .filling .stream 2 (port .filling true 3 3 (entry 1 0 1 0 live))), 2,
      by decide +kernel⟩,
    ⟨works .running .waitSlot (slot 7 .filling .stream 0 (full (port .filling false 3 0 live))), 7,
      by decide +kernel⟩,
    works .running .waitSlot (tape .running .forward
      (slot 0 .filling .stream 0 (full (port .filling true 3 3 live)))), 0, by decide +kernel⟩

theorem witness_ClockEdgesAssembleWords :
    (∃ s : State, s.stream.state = .off) ∧
    (∃ s : State, s.stream.state ≠ .off ∧ s.stream.master = false ∧ s.stream.bits = []) ∧
    (∃ s : State, s.stream.state ≠ .off ∧ s.stream.master = false ∧ s.stream.bits ≠ [] ∧
      s.stream.bits.length < 15) ∧
    (∃ s : State, s.stream.state ≠ .off ∧ s.stream.master = true ∧ s.stream.edges = 0) ∧
    (∃ s : State, s.stream.state ≠ .off ∧ s.stream.master = true ∧ 0 < s.stream.edges ∧
      s.stream.edges < 16 ∧ s.stream.bits.length < 15) ∧
    (∃ s : State, s.stream.state ≠ .off ∧ s.stream.master = true ∧ 16 ≤ s.stream.edges) ∧
    (∃ s : State, s.stream.state ≠ .off ∧ s.stream.bits.length = 15 ∧ s.stream.master = true) ∧
    (∃ s : State, s.stream.state ≠ .off ∧ s.stream.bits.length = 15 ∧ s.stream.master = false) ∧
    ∃ s : State, s.stream.state ≠ .off ∧ s.stream.master = false ∧ s.stream.bits ≠ [] :=
  ⟨⟨live, rfl⟩, ⟨port .filling false 0 0 live, by decide +kernel⟩,
    ⟨port .filling false 14 0 live, by decide +kernel⟩,
    ⟨port .filling true 0 0 live, by decide +kernel⟩,
    ⟨port .filling true 14 14 live, by decide +kernel⟩,
    ⟨port .filling true 0 16 live, by decide +kernel⟩,
    ⟨port .filling true 15 15 live, by decide +kernel⟩,
    ⟨port .starved false 15 0 live, by decide +kernel⟩,
    port .starved false 15 0 live, by decide +kernel⟩

theorem witness_WordsAreStoredOrLost :
    (∃ (s : State) (n : SlotNo), s.stream.bits.length = 15 ∧ s.stream.master = false ∧
      s.stream.state = .filling ∧ s.pool.streamFill = some n ∧ s.stream.strlen ≤ 1024 ∧
      (s.slot n).length + 2 < s.stream.strlen ∧ s.pool.data.wf = true) ∧
    (∃ (s : State) (n : SlotNo), s.stream.bits.length = 15 ∧ s.stream.master = true ∧
      0 < s.stream.edges ∧ s.stream.edges < 16 ∧ s.stream.state = .filling ∧
      s.pool.streamFill = some n ∧ s.stream.strlen ≤ 1024 ∧
      (s.slot n).length + 2 < s.stream.strlen ∧ s.pool.data.wf = true) ∧
    (∃ s : State, s.stream.bits.length = 15 ∧ s.stream.master = false ∧
      s.stream.state = .starved) ∧
    (∃ s : State, s.stream.bits.length = 15 ∧ s.stream.master = true ∧ 0 < s.stream.edges ∧
      s.stream.edges < 16 ∧ s.stream.state = .starved) ∧
    (∃ (s : State) (n : SlotNo), s.stream.bits.length = 15 ∧ s.stream.master = false ∧
      s.stream.state = .filling ∧ s.pool.streamFill = some n ∧ s.stream.strlen ≤ 1024 ∧
      (s.slot n).length + 2 = s.stream.strlen ∧ s.pool.data.wf = true ∧
      s.seq.work ≠ .waitHead ∧ s.pool.freeCount ≤ s.stream.reserve) ∧
    ∃ (s : State) (n : SlotNo), s.stream.bits.length = 15 ∧ s.stream.master = true ∧
      0 < s.stream.edges ∧ s.stream.edges < 16 ∧ s.stream.state = .filling ∧
      s.pool.streamFill = some n ∧ s.stream.strlen ≤ 1024 ∧
      (s.slot n).length + 2 = s.stream.strlen ∧ s.pool.data.wf = true ∧ s.seq.state = .running ∧
      s.seq.work = .waitHead ∧ s.stream.reserve < s.pool.freeCount :=
  ⟨⟨slot 0 .filling .stream 508 (port .filling false 15 0 live), 0, by decide +kernel⟩,
    ⟨slot 7 .filling .stream 0 (port .filling true 15 15 live), 7, by decide +kernel⟩,
    ⟨port .starved false 15 0 live, by decide +kernel⟩, ⟨port .starved true 15 1 live, by decide +kernel⟩,
    ⟨slot 0 .filling .stream 510 (full (port .filling false 15 0 live)), 0, by decide +kernel⟩,
    works .running .waitHead (slot 7 .filling .stream 510 (entry 1 0 1 0 (port .filling true 15 15 live))),
    7, by decide +kernel⟩

theorem witness_PacingSpreadsTheFraction :
    (∃ s : State, s.stream.state ≠ .off ∧ s.stream.master = true ∧
      s.stream.acc + s.stream.fraction < 16) ∧
    (∃ s : State, s.stream.state ≠ .off ∧ s.stream.master = true ∧
      16 ≤ s.stream.acc + s.stream.fraction) ∧
    (∃ s : State, s.stream.state = .off) ∧ (∃ s : State, s.stream.master = false) ∧
    ∃ p : StreamPort, p.acc < 16 ∧ p.fraction < 16 :=
  ⟨⟨(port .filling true 0 0 live).setStream
      { (port .filling true 0 0 live).stream with acc := 0, fraction := 15 }, by decide +kernel⟩,
    ⟨(port .filling true 0 0 live).setStream
      { (port .filling true 0 0 live).stream with acc := 1, fraction := 15 }, by decide +kernel⟩,
    ⟨live, rfl⟩, ⟨live, rfl⟩, { StreamPort.reset with acc := 15, fraction := 15 }, by decide⟩

theorem witness_StartRefusals :
    (∃ s : State, s.seq.state ≠ .idle) ∧
    (∃ (s : State) (i : Nat), s.seq.state = .idle ∧ i < s.seq.ctl.mainLength ∧
      (s.seq.main i).badMain = true ∧ ∀ j < i, (s.seq.main j).badMain = false) ∧
    ∃ (s : State) (i : Nat), s.seq.state = .idle ∧ i < s.seq.ctl.recLength ∧
      (s.seq.recovery i).badRecovery = true ∧
      (∀ j < s.seq.ctl.mainLength, (s.seq.main j).badMain = false) ∧
      ∀ j < i, (s.seq.recovery j).badRecovery = false :=
  ⟨⟨works .frozen .none live, by decide +kernel⟩, ⟨entry 4 1 0 8 live, 0, by decide +kernel⟩,
    (entry 4 0 0 7 live).setSeq { (entry 4 0 0 7 live).seq with
      ctl := { mainLength := 1, recLength := 1, cycle := false, freezeOnFailure := false } }, 0,
    by decide +kernel⟩

theorem witness_StartBeginsTheList :
    (∃ s : State, s.seq.state = .idle ∧ s.seq.firstBad = none ∧ s.seq.listMem.read 0 = 0x04 ∧
      s.xp.motion = .stopped ∧ s.xp.levels.eom = false) ∧
    (∃ s : State, s.seq.state = .idle ∧ s.seq.firstBad = none ∧ s.seq.listMem.read 0 = 0x05 ∧
      s.xp.motion = .stopped ∧ s.xp.levels.bom = false) ∧
    (∃ s : State, s.seq.state = .idle ∧ s.seq.firstBad = none ∧ s.seq.listMem.read 0 = 0x06 ∧
      s.xp.motion = .stopped ∧ s.xp.levels.eom = false) ∧
    ∃ s : State, s.seq.state = .idle ∧ s.seq.firstBad = none ∧ s.seq.listMem.read 0 = 0x07 ∧
      s.xp.motion = .stopped ∧ s.xp.levels.bom = false :=
  ⟨⟨entry 4 0 0 7 live, by decide +kernel⟩, ⟨entry 5 255 0 0 live, by decide +kernel⟩,
    ⟨entry 6 1 0 0 live, by decide +kernel⟩, entry 7 1 0 0 live, by decide +kernel⟩

/-- START may be given. -/
abbrev startable (op : Byte) (s : State) : Prop :=
  s.seq.state = .idle ∧ s.seq.firstBad = none ∧ s.seq.listMem.read 0 = op ∧ s.wch.phase = .idle

/-- Each operation that begins with the tape at rest, with its boundaries: an empty and a filled write
queue, a FREE slot and none, BOM absent and present, STOPPED and FAULT. -/
theorem witness_StartBeginsTheList_operations :
    (∀ q ∈ ([[], [4, 0]] : List (List SlotNo)), ∃ s : State, startable 0x01 s ∧
      s.xp.motion = .stopped ∧ s.xp.levels.wpermit = true ∧ s.xp.levels.eom = false ∧
      s.pos.zone = .inData ∧ (s.seq.listMem.read 2).getLsbD 3 = true ∧ s.pool.writeQ = q) ∧
    (∃ s : State, startable 0x02 s ∧ s.xp.motion = .stopped ∧ s.xp.levels.wpermit = true ∧
      s.xp.levels.eom = false ∧ s.pos.zone = .pastEw ∧
      (s.seq.listMem.read 2).getLsbD 3 = false) ∧
    (∃ (s : State) (n : SlotNo), startable 0x03 s ∧ s.xp.motion = .stopped ∧
      s.xp.levels.eom = false ∧ (s.slot n).state = .free ∧ ∀ m, m < n → (s.slot m).state ≠ .free) ∧
    (∃ s : State, startable 0x03 s ∧ s.xp.motion = .stopped ∧ s.xp.levels.eom = false ∧
      ∀ n, (s.slot n).state ≠ .free) ∧
    (∃ s : State, startable 0x08 s ∧ s.xp.motion = .stopped ∧ s.xp.levels.wpermit = true ∧
      s.xp.levels.eom = false ∧ s.pos.zone ≠ .unknown) ∧
    (∀ op ∈ ([0x09, 0x0A] : List Byte), ∀ m ∈ [Motion.stopped, .fault], ∃ s : State,
      startable op s ∧ s.xp.motion = m ∧ s.xp.levels.ready = true ∧ s.xp.levels.bom = false) ∧
    (∃ s : State, startable 0x0A s ∧ s.xp.motion = .fault ∧ s.xp.levels.ready = true ∧
      s.xp.levels.bom = true) ∧
    ∀ m ∈ [Motion.stopped, .fault], ∃ s : State, startable 0x09 s ∧ s.xp.levels.bom = true ∧
      s.xp.motion = m ∧ s.xp.levels.ready = true ∧ s.seq.ctl.mainLength = 1 ∧
      s.seq.ctl.cycle = false ∧ s.host.results.length < 16 :=
  ⟨fun q hq => ⟨queued q (entry 1 0 9 0 live), by revert q; decide +kernel⟩,
    ⟨(entry 2 1 1 0 live).setPos { live.pos with zone := .pastEw }, by decide +kernel⟩,
    ⟨slot 7 .free .host 0 (full (entry 3 0 0 0 live)), 7, by decide +kernel⟩,
    ⟨full (entry 3 0 0 0 live), by decide +kernel⟩, ⟨entry 8 255 0 0 live, by decide +kernel⟩,
    fun op ho m hm => ⟨tape m .forward (entry op 0 0 0 live), by revert op m; decide +kernel⟩,
    ⟨tape .fault .forward (levels (fun l => { l with bom := true }) (entry 0x0A 0 0 0 live)),
      by decide +kernel⟩,
    fun m hm => ⟨tape m .forward (levels (fun l => { l with bom := true })
      (entry 9 0 0 0 (results 15 0 live))), by revert m; decide +kernel⟩⟩

/-- Each check of R59 that an entry can fail. -/
theorem witness_StartBeginsTheList_checks :
    (∀ m ∈ [Motion.noCartridge, .notReady], ∃ s : State, startable 0x01 s ∧ s.xp.motion = m ∧
      s.host.results.length < 16) ∧
    (∃ s : State, startable 0x03 s ∧ s.xp.motion = .fault ∧ s.host.results.length < 16) ∧
    (∀ op ∈ ([0x09, 0x0A] : List Byte), ∃ s : State, startable op s ∧ s.xp.motion = .fault ∧
      s.xp.levels.ready = false ∧ s.host.results.length < 16) ∧
    (∀ op ∈ ([0x01, 0x02, 0x08] : List Byte), ∃ s : State, startable op s ∧
      s.xp.motion = .stopping ∧ s.xp.levels.wpermit = false ∧ s.host.results.length < 16) ∧
    (∀ op ∈ ([0x01, 0x02, 0x08] : List Byte), ∃ s : State, startable op s ∧
      s.xp.motion = .stopped ∧ s.xp.levels.wpermit = true ∧ s.pos.zone = .unknown ∧
      s.host.results.length < 16) ∧
    (∀ op ∈ ([0x01, 0x02, 0x03, 0x04, 0x06, 0x08] : List Byte), ∃ s : State, startable op s ∧
      s.xp.motion = .stopped ∧ s.xp.levels.wpermit = true ∧ s.pos.zone ≠ .unknown ∧
      s.xp.levels.eom = true ∧ s.host.results.length < 16) ∧
    ∀ op ∈ ([0x01, 0x02, 0x08] : List Byte), ∃ s : State, startable op s ∧
      s.xp.motion = .stopped ∧ (s.seq.listMem.read 2).getLsbD 3 = true ∧
      (s.seq.listMem.read 2).getLsbD 2 = true ∧ s.xp.levels.wpermit = true ∧
      s.xp.levels.eom = false ∧ s.pos.zone = .pastEw ∧ s.host.results.length < 16 :=
  ⟨fun m hm => ⟨tape m .forward (entry 1 1 0 0 live), by revert m; decide +kernel⟩,
    ⟨tape .fault .forward (entry 3 0 0 0 live), by decide +kernel⟩,
    fun op ho => ⟨tape .fault .forward (levels (fun l => { l with ready := false })
      (entry op 0 0 0 live)), by revert op; decide +kernel⟩,
    fun op ho => ⟨tape .stopping .forward (levels (fun l => { l with wpermit := false })
      (entry op 1 0 0 live)), by revert op; decide +kernel⟩,
    fun op ho => ⟨(entry op 1 0 0 live).setPos live.pos.lost, by revert op; decide +kernel⟩,
    fun op ho => ⟨levels (fun l => { l with eom := true }) (entry op 1 0 0 (results 15 0 live)),
      by revert op; decide +kernel⟩,
    fun op ho => ⟨(entry op 1 0x0C 0 live).setPos { live.pos with zone := .pastEw },
      by revert op; decide +kernel⟩⟩

theorem witness_StopActsByState :
    (∃ s : State, s.seq.state = .idle) ∧ (∃ s : State, s.seq.state = .stopping) ∧
    (∃ s : State, s.seq.state = .recovery) ∧
    (∃ s : State, s.seq.state = .running ∧ s.seq.work = .unload) ∧
    (∃ (s : State) (n : SlotNo), s.seq.state = .running ∧ s.seq.work = .writeSlot n ∧
      s.wch.phase = .block ∧ s.wch.held = none) ∧
    (∃ s : State, s.seq.state = .running ∧ s.seq.work = .writeMark ∧ s.wch.phase = .after) ∧
    (∃ (s : State) (n : SlotNo), s.seq.state = .running ∧ s.seq.work = .read n ∧
      s.rch.phase ≠ .silent) ∧
    (∃ (s : State) (d : Dir), s.seq.state = .running ∧ s.seq.work = .seek d ∧
      s.rch.phase ≠ .silent) ∧
    (∃ (s : State) (n : SlotNo), s.seq.state = .running ∧ s.host.results.length < 16 ∧
      s.seq.work = .writeSlot n ∧ (s.slot n).state = .active ∧ s.wch.phase = .block ∧
      s.wch.held ≠ none) ∧
    (∃ (s : State) (n : SlotNo), s.seq.state = .running ∧ s.host.results.length < 16 ∧
      s.seq.work = .writeSlot n ∧ (s.slot n).state = .active ∧ s.wch.phase = .gap) ∧
    (∃ s : State, s.seq.state = .running ∧ s.host.results.length < 16 ∧
      s.seq.work = .writeMark ∧ s.wch.phase = .idle) ∧
    (∃ (s : State) (n : SlotNo), s.seq.state = .running ∧ s.host.results.length < 16 ∧
      s.rch.phase = .silent ∧ s.seq.work = .read n ∧ (s.slot n).state = .active ∧
      s.stream.state ≠ .starved) ∧
    (∃ (s : State) (d : Dir), s.seq.state = .running ∧ s.host.results.length < 16 ∧
      s.rch.phase = .silent ∧ s.seq.work = .space d) ∧
    ∃ s : State, s.seq.state = .running ∧ s.seq.work = .waitHead ∧ s.host.results.length < 16 :=
  ⟨⟨live, rfl⟩, ⟨works .stopping .erase live, rfl⟩, ⟨works .recovery .none live, rfl⟩,
    ⟨works .running .unload live, by decide +kernel⟩,
    ⟨works .running (.writeSlot 3) (channel .block (some (aUnit (.slot 3) .data (some 7))) none live), 3,
      by decide +kernel⟩,
    ⟨works .running .writeMark (channel .after (some (aUnit .markUnit .mark (some 7))) none live),
      by decide +kernel⟩,
    ⟨works .running (.read 7) (live.setRch { live.rch with phase := .body }), 7, by decide +kernel⟩,
    ⟨works .running (.seek .reverse) (live.setRch { live.rch with phase := .passing }), .reverse,
      by decide +kernel⟩,
    ⟨works .running (.writeSlot 3) (slot 3 .active .host 1 ((channel .block
      (some (aUnit (.slot 4) .data (some 6))) none (results 15 0 live)).holdWork
        (.write (aUnit (.slot 3) .data (some 7))))), 3, by decide +kernel⟩,
    ⟨works .running (.writeSlot 3) (slot 3 .active .host 1 (channel .gap
      (some (aUnit (.slot 3) .data (some 7))) none live)), 3, by decide +kernel⟩,
    ⟨works .running .writeMark live, by decide +kernel⟩,
    ⟨works .running (.read 7) (slot 7 .active .medium 0 (results 15 0 live)), 7, by decide +kernel⟩,
    ⟨works .running (.space .forward) live, .forward, by decide +kernel⟩,
    works .running .waitHead (results 15 0 live), by decide +kernel⟩

/-- A WRITE unit of slot 6 with a number of results in the queue. -/
def aborts (k : Nat) (m : Motion) : State :=
  tape m .forward (works .stopping (.writeSlot 6) (slot 6 .active .host 1 (results k 0 live)))

/-- A write unit's slot, given back (the other fates: `witness_terminal_changes`). -/
theorem writeGivenBack (s : State) (n : SlotNo) (h : s.seq.state ∈ [.running, .stopping])
    (he : s.seq.episode = none) (hw : s.seq.work = .writeSlot n) (ha : (s.slot n).state = .active) :
    ∃ p, s.entryGivesBack p := ⟨_, .inl ⟨h, he, .inl ⟨n, hw, ha, rfl⟩⟩⟩

theorem witness_AbortActsByState :
    (∃ s : State, s.seq.state = .idle) ∧ (∃ s : State, s.seq.state = .aborting) ∧
    (∀ k ∈ [0, 15, 16], ∀ m ∈ [Motion.starting, .running, .stopping, .rewinding, .unloading, .stopped, .fault],
      ∃ s : State, (∃ p, s.entryGivesBack p) ∧ s.xp.motion = m ∧ s.xp.deferred = [] ∧
        s.host.results.length = k ∧ s.seq.pendingResult = none) ∧
    (∃ s : State, (∃ p, s.entryGivesBack p) ∧ s.xp.motion = .running ∧
      s.xp.deferred = [.idle, .reverse] ∧ s.xp.levels.bom = true ∧
      s.host.results.length < 16) ∧
    (∀ m ∈ [Motion.running, .stopping, .stopped], ∃ (s : State) (r : Result),
      s.seq.state = .postWait ∧ s.seq.pendingResult = some r ∧ s.xp.motion = m ∧
        s.xp.deferred = []) ∧
    (∃ s : State, s.seq.state = .aborting ∧ s.seq.pendingResult = none ∧
      s.xp.motion ∈ [.stopped, .noCartridge, .notReady, .fault]) ∧
    ∃ s : State, s.seq.state = .aborting ∧
      s.xp.motion ∉ [.stopped, .noCartridge, .notReady, .fault] :=
  ⟨⟨live, rfl⟩, ⟨works .aborting .none live, rfl⟩,
    fun k hk m hm => ⟨aborts k m, writeGivenBack _ 6 (by revert k m; decide +kernel)
      (by revert k m; decide +kernel) rfl (by revert k m; decide +kernel), by revert k m; decide +kernel⟩,
    ⟨(levels (fun l => { l with bom := true }) (aborts 0 .running)).setDeferred [.idle, .reverse],
      writeGivenBack _ 6 (by decide +kernel) (by decide +kernel) rfl (by decide +kernel),
      by decide +kernel⟩,
    fun m hm => ⟨waits (tape m .forward (results 16 0 live)), aResult .eomMet,
      by revert m; decide +kernel⟩,
    ⟨works .aborting .none live, by decide +kernel⟩,
    tape .stopping .forward (works .aborting .none live), by decide +kernel⟩

/-- FROZEN after the last block of a one-block entry. -/
def frozen : State :=
  (works .frozen .none (slot 3 .active .host 1 (entry 1 1 1 0 (results 15 0 live)))).setEpisode
    (some (anEpisode 3))

theorem witness_HostEndsTheFrozenState :
    (∃ s : State, s.seq.state = .idle) ∧
    (∃ s : State, s.seq.state ≠ .idle ∧ s.seq.state ≠ .frozen) ∧
    (∃ (s : State) (e : Episode) (n : SlotNo), s.seq.state = .frozen ∧ s.seq.episode = some e ∧
      e.kind = .write ∧ e.slot = some n ∧ (s.slot n).state = .active ∧
      s.entry.count.toNat = s.seq.record.unitsDone + 1 ∧ s.lastEntry ∧
      s.host.results.length < 16) ∧
    ∃ (s : State) (e : Episode) (n : SlotNo), s.seq.state = .frozen ∧ s.seq.episode = some e ∧
      e.kind = .write ∧ e.slot = some n ∧ e.cur = none ∧ s.xp.motion = .stopped ∧
      s.xp.levels.wpermit = true ∧ s.pos.zone ≠ .unknown ∧ s.xp.levels.eom = false ∧
      s.wch.phase = .idle :=
  ⟨⟨live, rfl⟩, ⟨works .recovery .none live, by decide +kernel⟩,
    ⟨frozen, anEpisode 3, 3, by decide +kernel⟩, frozen, anEpisode 3, 3, by decide +kernel⟩

/-- A unit of slot 3 in GAP with the tape RUNNING forward. -/
def inGap (t : GapTimer) : State :=
  (tape .running .forward (slot 3 .active .stream 1024 live)).setWch { WriteChannel.reset with
    phase := .gap, unit := some (aUnit (.slot 3) .data (some 7)), gapTimer := t, egate := true }

theorem witness_BlockOpensAfterTheGap :
    (∃ (s : State) (u : WUnit) (n : SlotNo) (x g : Byte), s.wch.phase = .gap ∧
      s.wch.unit = some u ∧ s.xp.motion = .running ∧ s.xp.dir = .forward ∧
      s.xp.levels.wpermit = true ∧ u.target = .slot n ∧ u.kind = .data ∧ u.tag = some x ∧
      s.wch.gapTimer = .running g) ∧
    (∃ (s : State) (u : WUnit) (n : SlotNo) (x : Byte), s.wch.phase = .gap ∧
      s.wch.unit = some u ∧ s.xp.motion = .running ∧ s.xp.dir = .forward ∧
      s.xp.levels.wpermit = true ∧ u.target = .slot n ∧ u.kind = .data ∧ u.tag = some x ∧
      s.wch.gapTimer = .ranOut ∧ s.wch.verify = none) ∧
    (∃ (s : State) (u : WUnit) (g : Byte), s.wch.phase = .gap ∧ s.wch.unit = some u ∧
      s.wch.gapTimer = .running g ∧ s.xp.motion = .running ∧ s.xp.dir = .forward ∧
      s.xp.levels.wpermit = true ∧ u.target = .markUnit ∧ u.kind = .mark ∧ u.tag = none) ∧
    (∃ (s : State) (g : Byte), s.wch.phase ≠ .gap ∧ s.wch.gapTimer = .running g) ∧
    ∃ s : State, s.wch.gapTimer = .stopped :=
  ⟨⟨inGap (.running 1), aUnit (.slot 3) .data (some 7), 3, 7, 1, by decide +kernel⟩,
    ⟨inGap .ranOut, aUnit (.slot 3) .data (some 7), 3, 7, by decide +kernel⟩,
    ⟨channel .gap (some (aUnit .markUnit .mark none)) none (inGap (.running 255)),
      aUnit .markUnit .mark none, 255, by decide +kernel⟩,
    ⟨channel .after none none (inGap (.running 1)), 1, by decide +kernel⟩, live, rfl⟩

/-- A unit of slot 3 in BLOCK with its check group written, with VERIFY or without. -/
def inPostamble (v : Bool) (s : State) : State :=
  s.setWch { s.wch with
    phase := .block, unit := some { aUnit (.slot 3) .data (some 7) with verify := v }
    checkWritten := true }

theorem witness_BlockEndsOnTheTape :
    (∃ (s : State) (u : WUnit) (f b : Nat), s.wch.phase = .block ∧ s.wch.checkWritten = false ∧
      s.wch.unit = some u ∧ u.verify = true ∧ u.kind = .data ∧ s.pos.zone ≠ .unknown ∧
      s.pos.file = some f ∧ s.pos.block = some b) ∧
    (∃ (s : State) (u : WUnit), s.wch.phase = .block ∧ s.wch.checkWritten = true ∧
      s.wch.unit = some u ∧ u.verify = true ∧ s.xp.deferred = []) ∧
    (∃ (s : State) (u : WUnit), s.wch.phase = .block ∧ s.wch.checkWritten = true ∧
      s.wch.unit = some u ∧ u.verify = false ∧ s.xp.deferred = [] ∧ s.wch.held = none) ∧
    (∃ (s : State) (u w : WUnit), s.wch.phase = .block ∧ s.wch.checkWritten = true ∧
      s.wch.unit = some u ∧ u.verify = false ∧ s.xp.deferred = [] ∧
      s.wch.held = some (.write w) ∧ s.xp.motion = .running ∧ s.xp.dir = .forward) ∧
    (∃ (s : State) (u : WUnit), s.wch.phase = .block ∧ s.wch.checkWritten = true ∧
      s.wch.unit = some u ∧ u.verify = true ∧ s.xp.deferred = [.stop] ∧ s.xp.motion = .running ∧
      s.seq.work = .none) ∧
    ∃ s : State, s.wch.phase ≠ .block :=
  ⟨⟨(channel .block (some (aUnit (.slot 3) .data (some 7))) none live).setPos
      { live.pos with block := some 65535 }, aUnit (.slot 3) .data (some 7), 1, 65535,
      by decide +kernel⟩,
    ⟨inPostamble true live, _, by decide +kernel, by decide +kernel, rfl, by decide +kernel⟩,
    ⟨inPostamble false live, _, by decide +kernel, by decide +kernel, rfl, by decide +kernel⟩,
    ⟨inPostamble false ((tape .running .forward live).holdWork (.write (aUnit (.slot 4) .data (some 8)))), _,
      aUnit (.slot 4) .data (some 8), by decide +kernel, by decide +kernel, rfl, by decide +kernel⟩,
    ⟨inPostamble true ((tape .running .forward live).setDeferred [.stop]), _, by decide +kernel,
      by decide +kernel, rfl, by decide +kernel⟩,
    live, by decide +kernel⟩

/-- A unit without VERIFY in BLOCK, one of a WRITE entry that runs. -/
def unverified (count : Byte) (q : List SlotNo) : State :=
  works .running (.writeSlot 3) (channel .block (some { aUnit (.slot 3) .data (some 7) with verify := false })
    none (slot 3 .active .host 1 (entry 1 count 0 0 (queued q ((tape .running .forward live).setDeferred [])))))

theorem witness_BlockEndsOnTheTape_units :
    (∃ (s : State) (u : WUnit) (f b : Nat), s.wch.phase = .block ∧ s.wch.checkWritten = false ∧
      s.wch.unit = some u ∧ u.verify = true ∧ u.kind = .mark ∧ s.pos.zone ≠ .unknown ∧
      s.pos.file = some f ∧ f < 65535 ∧ s.pos.block = some b) ∧
    (∀ x ∈ ([(1, []), (2, [5]), (0, [5, 0])] : List (Byte × List SlotNo)), ∃ (s : State) (u : WUnit)
      (n : SlotNo) (f b : Nat), s.wch.phase = .block ∧ s.wch.checkWritten = false ∧
      s.wch.unit = some u ∧ u.verify = false ∧ u.kind = .data ∧ u.target = .slot n ∧
      s.pos.zone ≠ .unknown ∧ s.pos.file = some f ∧ s.pos.block = some b ∧
      s.seq.state = .running ∧ s.seq.work = .writeSlot n ∧ (s.slot n).state = .active ∧
      0 < s.pool.freeCount ∧ s.stream.state ≠ .starved ∧ s.xp.motion = .running ∧
      s.xp.dir = .forward ∧ s.xp.deferred = [] ∧ s.pool.writeQ = x.2 ∧
      (x.1 = 1 → s.lastEntry ∧ s.entry.count.toNat = s.seq.record.unitsDone + 1 ∧
        s.host.results.length < 16) ∧
      (x.1 ≠ 1 → s.unitFollows ∧ n ∉ x.2 ∧ s.entry.opcode = 0x01 ∧ s.xp.levels.wpermit = true ∧
        s.xp.levels.eom = false)) ∧
    ∃ (s : State) (u : WUnit), s.wch.phase = .block ∧ s.wch.checkWritten = true ∧
      s.wch.unit = some u ∧ u.verify = false ∧ s.xp.deferred = [.stop] ∧ s.xp.motion = .running ∧
      s.seq.state = .idle ∧ s.wch.held = none :=
  ⟨⟨(channel .block (some (aUnit .markUnit .mark (some 7))) none live).setPos
      { live.pos with file := some 65534 }, aUnit .markUnit .mark (some 7), 65534, 2,
      by decide +kernel⟩,
    fun x hx => ⟨unverified x.1 x.2, { aUnit (.slot 3) .data (some 7) with verify := false }, 3, 1, 2,
      by revert x; decide +kernel⟩,
    inPostamble false ((tape .running .forward live).setDeferred [.stop]),
    { aUnit (.slot 3) .data (some 7) with verify := false }, by decide +kernel⟩

/-- A unit of slot 3 in AFTER, its watch in a state, the entry of one block with VERIFY and
NO_RECOVERY, and FREEZE_ON_FAILURE on. -/
def inAfter (v : Verify) : State :=
  ((channel .after (some (aUnit (.slot 3) .data (some 7))) (some v)
    (works .running (.writeSlot 3) (tape .running .forward (slot 3 .active .host 1
      (entry 1 1 0x21 0 (results 15 0 live)))))).setSeq
    { (works .running (.writeSlot 3) (entry 1 1 0x21 0 live)).seq with
      ctl := { mainLength := 1, recLength := 0, cycle := false, freezeOnFailure := true } })

theorem witness_UnsensedBlockFails :
    (∃ (s : State) (x : Byte) (v : Verify), s.wch.watchTimer = some x ∧ s.wch.verify = some v ∧
      v.watch = .unopened) ∧
    (∃ s : State, s.wch.watchTimer = none) ∧ (∃ s : State, s.wch.deadline = none) ∧
    ∃ (s : State) (u : WUnit) (v : Verify) (n : SlotNo) (d : Byte × Byte) (f : Row),
      s.wch.phase = .after ∧ s.wch.deadline = some d ∧ s.wch.unit = some u ∧ u.target = .slot n ∧
      s.wch.verify = some v ∧ v.watch = .waiting ∧ v.compared = 0 ∧ v.captureTaken = false ∧
      v.frames.head? = some f ∧ s.seq.state = .running ∧ s.entry.noRecovery = true ∧
      s.seq.ctl.freezeOnFailure = true ∧ s.seq.work = .writeSlot n ∧ s.xp.motion = .running :=
  ⟨⟨(inAfter (aVerify .unopened 0 0)).setWch
      { (inAfter (aVerify .unopened 0 0)).wch with watchTimer := some 1 }, 1,
      aVerify .unopened 0 0, by decide +kernel⟩,
    ⟨live, rfl⟩, ⟨live, rfl⟩,
    (inAfter (aVerify .waiting 0 0)).setWch
      { (inAfter (aVerify .waiting 0 0)).wch with deadline := some (1, 4) },
    aUnit (.slot 3) .data (some 7), aVerify .waiting 0 0, 3, (1, 4), rowOf 0xAA, by decide +kernel⟩

/-- A unit of slot 3 that was never sensed, its entry of one block with V0 for a recovery list and a budget
of one, the erase in progress. -/
def unsensed (v0 : Byte) : State :=
  let s := inAfter (aVerify .waiting 0 0)
  let s := s.setWch { s.wch with
    deadline := some (1, 4), egate := true, run := true, gapTimer := .running 1 }
  entry 1 1 1 1 (s.setSeq { s.seq with
    listMem := (s.seq.listMem.write 32 v0).write 33 1
    ctl := { mainLength := 1, recLength := 1, cycle := false, freezeOnFailure := true } })

theorem witness_UnsensedBlockFails_recovery :
    ∀ v0 ∈ ([0x05, 0x08, 0x11, 0x12] : List Byte), ∃ (s : State) (u : WUnit) (v : Verify)
      (n : SlotNo) (d : Byte × Byte) (f : Row) (g : Byte) (k : Nat), s.wch.phase = .after ∧
      s.wch.deadline = some d ∧ s.wch.unit = some u ∧ u.target = .slot n ∧
      s.wch.verify = some v ∧ v.watch = .waiting ∧ v.compared = 0 ∧ v.captureTaken = false ∧
      v.frames.head? = some f ∧ s.seq.state = .running ∧ s.entry.noRecovery = false ∧
      0 < s.seq.ctl.recLength ∧ s.seq.work = .writeSlot n ∧ (s.slot n).state = .active ∧
      s.xp.motion = .running ∧ s.xp.dir = .forward ∧ s.wch.run = true ∧
      s.xp.levels.wpermit = true ∧ s.pos.zone ≠ .unknown ∧ s.xp.levels.eom = false ∧
      s.xp.levels.bom = false ∧ s.seq.listMem.read 32 = v0 ∧ 0 < s.entry.budget.toNat ∧
      s.wch.gapTimer = .running g ∧ s.pos.file = some k ∧
      s.entry.count.toNat = s.seq.record.unitsDone + 1 ∧ s.lastEntry ∧
      s.host.results.length < 16 :=
  fun v0 hv => ⟨unsensed v0, aUnit (.slot 3) .data (some 7), aVerify .waiting 0 0, 3, (1, 4), rowOf 0xAA, 1, 1,
    by revert v0; decide +kernel⟩

theorem witness_CleanReadBackEndsTheUnit :
    ∃ (s : State) (u : WUnit) (v : Verify) (n : SlotNo), s.wch.phase = .after ∧
      s.wch.unit = some u ∧ s.wch.verify = some v ∧ u.target = .slot n ∧ v.watch = .sensing ∧
      v.weak = false ∧ v.bad = false ∧ v.captureTaken = false ∧ 0 < v.silentRun ∧
      v.lastSilent = true ∧ v.compared = v.frames.length + v.silentRun ∧
      v.silence.toNat ≤ v.silentRun + 1 ∧ s.xp.motion = .running ∧ s.seq.state = .running ∧
      s.seq.work = .writeSlot n ∧ (s.slot n).state = .active ∧ 0 < s.pool.freeCount ∧
      s.stream.state ≠ .starved ∧ s.entry.count.toNat = s.seq.record.unitsDone + 1 ∧
      s.lastEntry ∧ s.host.results.length < 16 :=
  ⟨inAfter (aVerify .sensing 16 3), aUnit (.slot 3) .data (some 7), aVerify .sensing 16 3, 3,
    by decide +kernel⟩

/-- A read-back one silent row short of its end, in an entry of two units, the erase in progress. -/
def lastVerifyRow (op : Byte) (u : WUnit) (w : Work) (g : GapTimer) (q : List SlotNo) : State :=
  let s := works .running w (entry op 2 1 0 (queued q (inAfter (aVerify .sensing 16 3))))
  (s.setXp { s.xp with lingerTimer := none }).setWch
    { s.wch with unit := some u, egate := true, run := true, gapTimer := g }

/-- What the clauses on a next unit ask of the state. -/
abbrev nextUnitDue (s : State) : Prop :=
  s.seq.state = .running ∧ s.unitFollows ∧ s.xp.motion = .running ∧ s.xp.dir = .forward ∧
    s.wch.run = true ∧ s.xp.levels.wpermit = true ∧ s.xp.levels.eom = false ∧
    s.pos.zone ≠ .unknown

theorem witness_CleanReadBackEndsTheUnit_next :
    (∀ g ∈ [GapTimer.running 255, .ranOut], ∀ q ∈ ([[5, 0], []] : List (List SlotNo)),
      ∃ (s : State) (u : WUnit) (n : SlotNo), s.cleanRowDue u ∧ nextUnitDue s ∧
        u.target = .slot n ∧ s.seq.work = .writeSlot n ∧ (s.slot n).state = .active ∧
        0 < s.pool.freeCount ∧ s.stream.state ≠ .starved ∧ s.entry.opcode = 0x01 ∧
        s.pool.writeQ = q ∧ n ∉ q ∧ s.wch.gapTimer = g ∧ s.xp.lingerTimer = none ∧
        s.xp.timing.linger ≠ 0) ∧
    ∃ (s : State) (u : WUnit) (g : Byte), s.cleanRowDue u ∧ nextUnitDue s ∧
      u.target = .markUnit ∧ s.seq.work = .writeMark ∧ s.entry.opcode = 0x02 ∧
      s.wch.gapTimer = .running g :=
  ⟨fun g hg q hq => ⟨lastVerifyRow 1 (aUnit (.slot 3) .data (some 7)) (.writeSlot 3) g q,
      aUnit (.slot 3) .data (some 7), 3, ⟨aVerify .sensing 16 3, by revert g q; decide +kernel⟩,
      by revert g q; decide +kernel⟩,
    lastVerifyRow 2 (aUnit .markUnit .mark (some 7)) .writeMark (.running 1) [],
    aUnit .markUnit .mark (some 7), 1, ⟨aVerify .sensing 16 3, by decide +kernel⟩, by decide +kernel⟩

theorem witness_CleanReadBackEndsTheUnit_recovered :
    ∃ (s : State) (u : WUnit) (v : Verify) (n : SlotNo) (e : Episode), s.wch.phase = .after ∧
      s.wch.unit = some u ∧ s.wch.verify = some v ∧ u.target = .slot n ∧ v.watch = .sensing ∧
      v.weak = false ∧ v.bad = false ∧ v.captureTaken = false ∧ 0 < v.silentRun ∧
      v.lastSilent = true ∧ v.compared = v.frames.length + v.silentRun ∧
      v.silence.toNat ≤ v.silentRun + 1 ∧ s.xp.motion = .running ∧ s.seq.state = .recovery ∧
      s.seq.work = .writeSlot n ∧ s.seq.episode = some e ∧ e.kind = .write ∧ e.slot = some n ∧
      (s.slot n).state = .active ∧ 0 < s.pool.freeCount ∧ s.stream.state ≠ .starved ∧
      s.entry.count.toNat = s.seq.record.unitsDone + 1 ∧ s.lastEntry ∧
      s.host.results.length < 16 :=
  ⟨((inAfter (aVerify .sensing 16 3)).setSeqState .recovery).setEpisode (some (anEpisode 3)),
    aUnit (.slot 3) .data (some 7), aVerify .sensing 16 3, 3, anEpisode 3, by decide +kernel⟩

/-- An ERASE entry of a count, its unit near its end. -/
def inErasing (count : Byte) : State :=
  (works .running .erase (entry 8 count 0 0 (tape .running .forward live))).setWch
    { WriteChannel.reset with phase := .erasing, egate := true, eraseTimer := some 1 }

theorem witness_HeldWorkAndErasing :
    (∃ (s : State) (u : WUnit), s.wch.held = some (.write u) ∧ s.wch.phase = .idle ∧
      s.xp.motion = .running ∧ s.xp.dir = .forward ∧ s.xp.levels.wpermit = true ∧
      s.rch.phase = .silent) ∧
    (∃ (s : State) (f : Nat), s.wch.held = some .erase ∧ s.wch.phase = .idle ∧
      s.xp.motion = .running ∧ s.xp.dir = .forward ∧ s.xp.levels.wpermit = true ∧
      s.rch.phase = .silent ∧ s.pos.zone ≠ .unknown ∧ s.pos.file = some f) ∧
    (∃ s : State, s.wch.held = none) ∧
    (∃ (s : State) (x : Byte), s.wch.phase = .erasing ∧ s.wch.eraseTimer = some x ∧
      s.seq.state = .running ∧ s.seq.work = .erase ∧
      s.entry.count.toNat = s.seq.record.unitsDone + 1 ∧ s.lastEntry ∧
      s.host.results.length < 16 ∧ s.xp.motion = .running) ∧
    (∀ c ∈ ([0, 2] : List Byte), ∃ (s : State) (x : Byte) (f : Nat), s.wch.phase = .erasing ∧
      s.wch.eraseTimer = some x ∧ s.seq.state = .running ∧ s.seq.work = .erase ∧
      s.unitFollows ∧ s.entry.count = c ∧ s.entry.opcode = 0x08 ∧ s.xp.motion = .running ∧
      s.xp.dir = .forward ∧ s.xp.levels.wpermit = true ∧ s.xp.levels.eom = false ∧
      s.pos.zone ≠ .unknown ∧ s.pos.file = some f) ∧
    ∃ s : State, s.wch.phase ≠ .erasing :=
  ⟨⟨(tape .running .forward live).holdWork (.write (aUnit (.slot 3) .data (some 7))),
      aUnit (.slot 3) .data (some 7), by decide +kernel⟩,
    ⟨(tape .running .forward live).holdWork .erase, 1, by decide +kernel⟩, ⟨live, rfl⟩,
    ⟨inErasing 1, 1, by decide +kernel⟩,
    fun c hc => ⟨inErasing c, 1, 1, by revert c; decide +kernel⟩,
    live, by decide +kernel⟩

/-- A burst with five rows taken. -/
def inPattern (rows : List Row) : State :=
  (tape .starting .forward live).setRch { live.rch with phase := .pattern, patRows := rows, silence := 4 }

theorem witness_ReadHeadRowsMakeBursts :
    (∃ s : State, s.xp.motion ∉ [.starting, .running, .stopping]) ∧
    (∃ s : State, s.wch.phase = .idle ∧ s.rch.phase = .silent) ∧
    (∃ (y : Row) (s : State), s.xp.motion ∈ [.starting, .running] ∧ s.wch.phase = .idle ∧
      s.rch.phase = .silent ∧ y ≠ 0) ∧
    (∃ (y : Row) (s : State), s.xp.motion ∈ [.starting, .running] ∧ s.wch.phase = .idle ∧
      s.rch.phase = .pattern ∧ y ≠ 0 ∧ s.rch.silentRows = [] ∧ s.rch.patRows.length = 5 ∧
      recognise (s.rch.patRows ++ [y]) = none) ∧
    ∃ (y : Row) (s : State) (k : BlockKind), s.xp.motion ∈ [.starting, .running] ∧
      s.wch.phase = .idle ∧ s.rch.phase = .pattern ∧ y ≠ 0 ∧ s.rch.silentRows = [] ∧
      s.rch.patRows.length = 5 ∧ recognise (s.rch.patRows ++ [y]) = some k ∧ s.readTarget = none :=
  ⟨⟨tape .rewinding .reverse live, by decide +kernel⟩, ⟨live, by decide +kernel⟩,
    ⟨1, tape .running .reverse live, by decide +kernel⟩,
    ⟨1, inPattern [1, 1, 1, 1, 1], by decide +kernel⟩,
    rowOf 0xE7, inPattern [1, rowOf 0xAA, rowOf 0xAA, rowOf 0xAA, rowOf 0x55], .data,
    by decide +kernel⟩

theorem witness_PatternsAreNeverConfused :
    (∃ rows : List Row, rows.length = 6 ∧ 5 ≤ agreeing rows dataPattern) ∧
    ∃ rows : List Row, rows.length = 6 ∧ 5 ≤ agreeing rows markPattern :=
  ⟨⟨[0, rowOf 0xAA, rowOf 0xAA, rowOf 0xAA, rowOf 0x55, rowOf 0xE7], by decide +kernel⟩,
    [rowOf 0x0F, rowOf 0xF0, rowOf 0x99, rowOf 0x99, rowOf 0xF0, 0], by decide +kernel⟩

theorem witness_WrittenBlockReadsBackClean :
    ∃ (s : State) (n : SlotNo) (h : Header) (bytes : List Byte), s.xp.dir = .forward ∧
      s.rch.phase = .silent ∧ s.rch.straddle = none ∧ s.seq.work = .read n ∧
      (s.slot n).state = .active ∧ s.pool.data.wf = true ∧ h.kind = .data ∧
      h.length = bytes.length ∧ 1 ≤ bytes.length ∧ bytes.length ≤ 1024 ∧
      s.seq.state ≠ .frozen ∧ s.rch.tagMem = some 255 :=
  ⟨works .running (.read 7) (slot 7 .active .medium 0
      ((tape .running .forward live).setRch { live.rch with tagMem := some 255 })), 7,
    { kind := .data, stream := true, discontinuity := false, rewritten := false, tag := 0, length := 1 },
    [0], by decide +kernel⟩

theorem witness_WrittenBlockReadsBackClean_damaged :
    ∃ (s : State) (n : SlotNo) (h : Header) (bytes : List Byte), s.xp.dir = .forward ∧
      s.rch.phase = .silent ∧ s.rch.straddle = none ∧ s.seq.work = .read n ∧
      (s.slot n).state = .active ∧ s.pool.data.wf = true ∧ h.kind = .data ∧
      h.length ≠ bytes.length ∧ h.length ≤ 1024 ∧ 1 ≤ bytes.length ∧ bytes.length ≤ 1024 ∧
      s.rch.tagMem = none :=
  ⟨works .running (.read 0) (slot 0 .active .medium 0 (tape .running .forward live)), 0,
    { kind := .data, stream := true, discontinuity := false, rewritten := false, tag := 255, length := 1024 },
    [0], by decide +kernel⟩

/-- A burst of no pattern, one silent row short of its end, met by a unit of a one-entry list. With a
straddle it is the remainder of a cut block or mark. -/
def lastRow (w : Work) (cut : Option (BlockKind × Dir)) (flags count op : Byte) : State :=
  (works .running w (tape .running .forward (entry op count flags 0 (results 15 0 live)))).setRch
    { live.rch with phase := .passing, silence := 2, silentRows := [(0, 0)], straddle := cut }

/-- A block taken up to its last row but one in slot 5 by the READ unit of a one-entry list, its length as
the header gives it or not. -/
def lastRowOfBlock (len : Nat) (mem : Option Byte) (flags : Byte) (s : State) : State :=
  let h : Header :=
    { kind := .data, stream := false, discontinuity := false, rewritten := false, tag := 7, length := len }
  let s := works .running (.read 5) (slot 5 .active .medium 0 (tape .running .forward
    (entry 3 1 flags 0 s)))
  let s := (blockFrames h [9]).foldl (fun s row => (s.takeRow row row).1)
    (s.setRch { s.rch with tagMem := mem })
  s.setRch { s.rch with silence := 2, silentRows := [(0, 0)] }

/-- FREEZE_ON_FAILURE on. -/
def freezes (s : State) : State :=
  s.setSeq { s.seq with ctl := { s.seq.ctl with freezeOnFailure := true } }

/-- A burst is about to end by a silent row, met by a unit that runs. -/
abbrev meets (s : State) : Prop :=
  s.xp.motion = .running ∧ s.wch.phase = .idle ∧ s.rch.phase ≠ .silent ∧
    s.rch.silence.toNat ≤ s.rch.silentRows.length + 1 ∧ s.seq.state = .running ∧
    s.seq.stopInd = false ∧ s.host.results.length < 16

/-- A list that the cut burst ends as the stop ramp expires leaves the tape at rest (R65). -/
theorem test_list_end_at_rest :
    let s := tape .stopping .forward (lastRow (.space .forward) (some (.data, .reverse)) 0 1 4)
    let t := after .stopRampExpiry (s.hold (some (.dir .forward)))
    t.seq.state = .idle ∧ t.xp.motion = .stopped ∧ t.xp.held = none := by decide +kernel

/-- What the burst's end finds. -/
abbrev finds (s u : State) (f : Found) : Prop := s.endBurst .silence = (u, some f)

theorem witness_DetectionReachesTheUnit :
    (∃ s u : State, meets s ∧ s.seq.work = .space .forward ∧ s.endBurst .silence = (u, none)) ∧
    (∃ (s u : State) (f : Found), meets s ∧ finds s u f ∧ s.seq.work = .space .forward ∧
      f.kind = .data ∧ f.dir = .forward ∧ s.lastEntry ∧
      s.entry.count.toNat = s.seq.record.unitsDone + 1) ∧
    (∃ (s u : State) (f : Found), meets s ∧ finds s u f ∧ s.seq.work = .seek .forward ∧
      f.kind = .data) ∧
    (∃ (s u : State) (f : Found), meets s ∧ finds s u f ∧ s.seq.work = .space .forward ∧
      f.kind = .mark ∧ f.dir = .forward ∧ s.lastEntry ∧ s.entry.count = 0) ∧
    (∃ (s u : State) (f : Found), meets s ∧ finds s u f ∧ s.seq.work = .space .forward ∧
      f.kind = .mark ∧ f.dir = .forward ∧ s.entry.haltOnShort = true ∧ s.entry.count = 255) ∧
    ∃ (s u : State) (f : Found), meets s ∧ finds s u f ∧ s.seq.work = .seek .forward ∧
      f.kind = .mark ∧ f.dir = .forward ∧ s.lastEntry ∧
      s.entry.count.toNat = s.seq.record.unitsDone + 1 :=
  ⟨⟨lastRow (.space .forward) none 0 1 4, _, by decide +kernel, by decide +kernel, rfl⟩,
    ⟨lastRow (.space .forward) (some (.data, .reverse)) 0 1 4, _, _, by decide +kernel, rfl,
      by decide +kernel, by decide +kernel, by decide +kernel, by decide +kernel, by decide +kernel⟩,
    ⟨lastRow (.seek .forward) (some (.data, .reverse)) 0 1 6, _, _, by decide +kernel, rfl,
      by decide +kernel, by decide +kernel⟩,
    ⟨lastRow (.space .forward) (some (.mark, .reverse)) 4 0 4, _, _, by decide +kernel, rfl,
      by decide +kernel, by decide +kernel, by decide +kernel, by decide +kernel⟩,
    ⟨lastRow (.space .forward) (some (.mark, .reverse)) 4 255 4, _, _, by decide +kernel, rfl,
      by decide +kernel, by decide +kernel, by decide +kernel, by decide +kernel⟩,
    lastRow (.seek .forward) (some (.mark, .reverse)) 0 1 6, _, _, by decide +kernel, rfl,
    by decide +kernel, by decide +kernel, by decide +kernel, by decide +kernel, by decide +kernel⟩

/-- What the read of a block finds: its class, or that it is whole. -/
abbrev readFinds (s u : State) (c : ReadClass) : Prop :=
  finds s u { kind := .data, dir := .forward, stored := some (5, c), givenBack := none }

theorem witness_DetectionReachesTheUnit_read :
    (∀ mem ∈ [none, some 6, some 9, some 7], ∃ s u : State, meets s ∧ readFinds s u .clean ∧
      s.seq.work = .read 5 ∧ (u.slot 5).state = .active ∧ s.rch.tagMem = mem ∧
      s.lastEntry ∧ s.entry.count.toNat = s.seq.record.unitsDone + 1 ∧ s.entry.supersede = false ∧
      u.pool.readQ = []) ∧
    (∀ cls ∈ [some ReadClass.damaged, some .clean], ∃ s u : State, meets s ∧
      readFinds s u .clean ∧ s.seq.work = .read 5 ∧ (u.slot 5).state = .active ∧
      (u.slot 5).read.finding = .duplicate ∧ s.entry.supersede = true ∧ u.pool.readQ = [6] ∧
      (u.slot 6).source = some .medium ∧ (u.slot 6).tag = (u.slot 5).tag ∧
      (u.slot 5).tag ≠ none ∧ 0 < u.pool.freeCount ∧ u.stream.state ≠ .starved ∧
      s.lastEntry ∧ s.entry.count.toNat = s.seq.record.unitsDone + 1 ∧ (u.slot 6).read.cls = cls ∧
      s.entry.opcode = 0x03 ∧ (∀ k, k < 5 → (u.slot k).state ≠ .free) ∧ s.xp.dir = .forward ∧
      s.xp.levels.eom = false) ∧
    ∃ s u : State, meets s ∧ readFinds s u .damaged ∧ s.seq.work = .read 5 ∧
      s.entry.noRecovery = true ∧ s.seq.ctl.freezeOnFailure = true :=
  ⟨fun mem hm => ⟨lastRowOfBlock 1 mem 0 live, ((lastRowOfBlock 1 mem 0 live).endBurst .silence).1,
      by revert mem; decide +kernel⟩,
    fun cls hc =>
      let s := ready [6] 1 0 (slot 7 .free .host 0 (full live))
      let s := lastRowOfBlock 1 (some 7) 0x10 (s.editSlot 6 (fun r => { r with read := { r.read with cls } }))
      ⟨s, (s.endBurst .silence).1, by revert cls; decide +kernel⟩,
    ⟨lastRowOfBlock 2 none 0x20 (freezes live), ((lastRowOfBlock 2 none 0x20 (freezes live)).endBurst .silence).1,
      by decide +kernel⟩⟩

/-- A detection handed to a unit whose entry or list goes on. -/
abbrev passes (s u : State) (k : BlockKind) : Prop :=
  meets s ∧ s.endBurst .silence = (u, some ⟨k, .forward, none, none⟩) ∧ s.xp.dir = .forward ∧
    s.xp.levels.eom = false

/-- The mark that ends a READ unit. -/
def markForRead (flags count : Byte) : State :=
  slot 5 .active .medium 0 (lastRow (.read 5) (some (.mark, .reverse)) flags count 3)

theorem witness_DetectionReachesTheUnit_units :
    (∀ x ∈ ([(0, true), (255, true), (1, false)] : List (Byte × Bool)), ∃ s u : State,
      meets s ∧ s.endBurst .silence = (u, some ⟨.mark, .forward, none, none⟩) ∧
      s.seq.work = .read 5 ∧ (u.slot 5).state = .active ∧ u.stream.state ≠ .starved ∧
      s.entry.count = x.1 ∧ s.entry.haltOnShort = x.2 ∧
      (s.lastEntry ∨ (s.entry.haltOnShort = true ∧ s.entry.count ≠ 0))) ∧
    (∀ c ∈ ([0, 2] : List Byte), ∃ s u : State, passes s u .data ∧ s.seq.work = .space .forward ∧
      s.entry.count = c ∧ s.unitFollows ∧ s.entry.opcode = 0x04) ∧
    (∃ s u : State, passes s u .mark ∧ s.seq.work = .seek .forward ∧ s.unitFollows ∧
      s.entry.opcode = 0x06) ∧
    (∃ s u : State, meets s ∧ s.endBurst .silence = (u, some ⟨.data, .reverse, none, none⟩) ∧
      s.xp.dir = .reverse ∧ s.seq.work = .space .reverse ∧ s.unitFollows ∧
      s.entry.opcode = 0x05 ∧ s.xp.levels.bom = false) ∧
    (∃ s u : State, meets s ∧ readFinds s u .clean ∧ s.seq.work = .read 5 ∧
      s.xp.dir = .forward ∧ (u.slot 5).state = .active ∧ s.unitFollows ∧
      s.entry.opcode = 0x03 ∧ s.xp.levels.eom = false ∧ s.entry.supersede = false ∧
      (u.slot 0).state = .free) ∧
    (∀ c ∈ [false, true], ∃ s u : State, passes s u .data ∧ s.seq.work = .space .forward ∧
      s.seq.ctl.cycle = c ∧ s.passFollows (.space .forward) ∧
      s.entry.count.toNat = s.seq.record.unitsDone + 1) ∧
    (∃ s u : State, passes s u .mark ∧ s.seq.work = .seek .forward ∧
      s.passFollows (.space .forward) ∧ s.entry.count.toNat = s.seq.record.unitsDone + 1) ∧
    ∀ c ∈ ([0, 1, 255] : List Byte), ∃ s u : State, passes s u .mark ∧
      s.seq.work = .space .forward ∧ s.passFollows (.space .forward) ∧ s.entry.count = c ∧
      s.entry.haltOnShort = false :=
  ⟨fun x hx => ⟨markForRead (if x.2 then 4 else 0) x.1,
      ((markForRead (if x.2 then 4 else 0) x.1).endBurst .silence).1,
      by revert x; decide +kernel⟩,
    fun c hc => ⟨lastRow (.space .forward) (some (.data, .reverse)) 0 c 4,
      ((lastRow (.space .forward) (some (.data, .reverse)) 0 c 4).endBurst .silence).1,
      by revert c; decide +kernel⟩,
    ⟨lastRow (.seek .forward) (some (.mark, .reverse)) 0 2 6,
      ((lastRow (.seek .forward) (some (.mark, .reverse)) 0 2 6).endBurst .silence).1,
      by decide +kernel⟩,
    ⟨tape .running .reverse (lastRow (.space .reverse) (some (.data, .forward)) 0 2 5),
      ((tape .running .reverse (lastRow (.space .reverse) (some (.data, .forward)) 0 2 5)).endBurst
        .silence).1, by decide +kernel⟩,
    ⟨entry 3 2 0 0 (lastRowOfBlock 1 none 0 live),
      ((entry 3 2 0 0 (lastRowOfBlock 1 none 0 live)).endBurst .silence).1, by decide +kernel⟩,
    fun c hc => ⟨(if c then cycles else andThen 4)
        (lastRow (.space .forward) (some (.data, .reverse)) 0 1 4),
      (((if c then cycles else andThen 4)
        (lastRow (.space .forward) (some (.data, .reverse)) 0 1 4)).endBurst .silence).1,
      by revert c; decide +kernel⟩,
    ⟨andThen 4 (lastRow (.seek .forward) (some (.mark, .reverse)) 0 1 6),
      ((andThen 4 (lastRow (.seek .forward) (some (.mark, .reverse)) 0 1 6)).endBurst .silence).1,
      by decide +kernel⟩,
    fun c hc => ⟨andThen 4 (lastRow (.space .forward) (some (.mark, .reverse)) 0 c 4),
      ((andThen 4 (lastRow (.space .forward) (some (.mark, .reverse)) 0 c 4)).endBurst .silence).1,
      by revert c; decide +kernel⟩⟩

/-- A unit of M0 that the blank window finds. -/
def inBlank (q : SeqState) (w : Work) (flags : Byte) : State :=
  works q w (slot 5 .active .medium 0 (tape .running .forward (entry 4 1 flags 0 (results 15 0 live))))

/-- What every clause of the blank window asks of the state but its unit. -/
abbrev blankDue (s : State) : Prop :=
  s.xp.motion = .running ∧ s.xp.dir = .forward ∧ s.xp.blankTimer ≠ none ∧
    s.host.results.length < 16 ∧ s.wch.phase = .idle

theorem witness_BlankWindowEndsTheEntry :
    (∀ q ∈ [SeqState.running, .stopping], ∀ w ∈ [Work.read 5, .space .forward, .seek .forward],
      (∃ s : State, blankDue s ∧ s.seq.state = q ∧ s.seq.work = w ∧ (s.slot 5).state = .active ∧
        s.stream.state ≠ .starved ∧ s.entry.haltOnShort = true) ∧
      (∃ s : State, blankDue s ∧ s.seq.state = q ∧ s.seq.work = w ∧ (s.slot 5).state = .active ∧
        s.stream.state ≠ .starved ∧ s.lastEntry ∧ s.seq.stopInd = false) ∧
      (∃ s : State, blankDue s ∧ s.seq.state = q ∧ s.seq.work = w ∧ (s.slot 5).state = .active ∧
        s.stream.state ≠ .starved ∧ s.entry.haltOnShort = false ∧ s.seq.stopInd = true) ∧
      ∃ s : State, blankDue s ∧ s.seq.state = q ∧ s.seq.work = w ∧ (s.slot 5).state = .active ∧
        s.stream.state ≠ .starved ∧ s.entry.haltOnShort = false ∧ s.seq.stopInd = false ∧
        s.passFollows (.seek .forward) ∧ s.xp.levels.eom = false) ∧
    ∃ s : State, s.xp.blankTimer = none :=
  ⟨fun q hq w hw => ⟨⟨inBlank q w 4, by revert q w; decide +kernel⟩,
      ⟨inBlank q w 0, by revert q w; decide +kernel⟩,
      ⟨stopped (inBlank q w 0), by revert q w; decide +kernel⟩,
      andThen 6 (inBlank q w 0), by revert q w; decide +kernel⟩, live, rfl⟩

theorem witness_ReverseReports :
    (∃ (p : Position) (b : Nat), p.zone ≠ .unknown ∧ p.zone ≠ .atBom ∧ p.block = some (b + 1)) ∧
    (∃ p : Position, p.zone ≠ .unknown ∧ p.zone ≠ .atBom ∧ p.block = some 0) ∧
    (∃ p : Position, p.zone = .atBom) ∧
    (∃ s : State, s.xp.dir = .reverse ∧ s.rch.straddle = some (.data, .forward)) ∧
    (∃ p : Position, p.zone ≠ .unknown ∧ p.zone ≠ .atBom ∧ p.file = some 0) ∧
    (∃ (p : Position) (f : Nat), p.zone ≠ .unknown ∧ p.zone ≠ .atBom ∧ p.file = some (f + 1) ∧
      mapWf p.map = true) ∧
    ∃ (p : Position) (f : Nat), p.block = none ∧ p.zone ≠ .unknown ∧ p.file = some f ∧
      f < 65535 :=
  ⟨⟨{ live.pos with block := some 65535 }, 65534, by decide +kernel⟩,
    ⟨{ live.pos with block := some 0 }, by decide +kernel⟩,
    ⟨{ live.pos with zone := .atBom }, rfl⟩,
    ⟨(tape .running .reverse live).setRch { live.rch with straddle := some (.data, .forward) },
      by decide +kernel⟩,
    ⟨{ live.pos with file := some 0 }, by decide +kernel⟩, ⟨live.pos, 0, by decide +kernel⟩,
    { live.pos with file := some 65534, block := none }, 65534, by decide +kernel⟩

/-- A full file map: files 1 to 16. -/
def fullMap : List (Nat × Nat) := (List.range 16).map (fun f => (f + 1, 9))

theorem witness_FileMapInsertion :
    (∃ (m : List (Nat × Nat)) (f : Nat), mapWf m = true ∧ ∃ e ∈ m, e.1 = f) ∧
    (∃ (m : List (Nat × Nat)) (f : Nat), mapWf m = true ∧ (∀ e ∈ m, e.1 ≠ f) ∧ m.length < 16) ∧
    (∃ (m q : List (Nat × Nat)) (f g c : Nat), mapWf m = true ∧ m = (g, c) :: q ∧
      (∀ e ∈ m, e.1 ≠ f) ∧ m.length = 16 ∧ g < f) ∧
    ∃ (m : List (Nat × Nat)) (f : Nat), mapWf m = true ∧ (∀ e ∈ m, f < e.1) ∧ m.length = 16 :=
  ⟨⟨fullMap, 16, by decide +kernel⟩, ⟨fullMap.tail, 1, by decide +kernel⟩,
    ⟨fullMap, fullMap.tail, 17, 1, 9, by decide +kernel⟩, fullMap, 0, by decide +kernel⟩

theorem witness_MarkerEdgesSetTheZone :
    (∃ s : State, s.xp.levels.bom = true) ∧ (∃ s : State, s.xp.levels.ew = true) ∧
    (∃ s : State, s.xp.levels.eom = true) ∧
    (∀ q ∈ [SeqState.running, .stopping, .recovery, .frozen],
      ∀ op ∈ ([0x01, 0x02, 0x08] : List Byte), ∃ s : State, s.xp.levels.ew = false ∧
        s.xp.dir = .forward ∧ s.xp.motion ∈ [.starting, .running, .stopping] ∧
        s.seq.state = q ∧ s.entry.opcode = op) ∧
    (∀ q ∈ [SeqState.idle, .postWait, .aborting], ∃ s : State, s.xp.levels.ew = false ∧
      s.xp.dir = .forward ∧ s.xp.motion = .running ∧ s.seq.state = q ∧ s.entry.opcode = 0x01) ∧
    (∃ s : State, s.xp.levels.ew = false ∧ s.xp.dir = .forward ∧ s.xp.motion = .running ∧
      s.seq.state = .running ∧ s.entry.opcode = 0x04) ∧
    (∃ s : State, s.xp.levels.ew = false ∧ s.xp.dir = .reverse) ∧
    ∃ s : State, s.xp.levels.ew = false ∧ s.xp.motion ∉ [.starting, .running, .stopping] :=
  ⟨⟨levels (fun l => { l with bom := true }) live, rfl⟩,
    ⟨levels (fun l => { l with ew := true }) live, rfl⟩,
    ⟨levels (fun l => { l with eom := true }) live, rfl⟩,
    fun q hq op ho => ⟨works q .none (entry op 1 0 0 (tape .stopping .forward live)),
      by revert q op; decide +kernel⟩,
    fun q hq => ⟨works q .none (entry 1 1 0 0 (tape .running .forward live)),
      by revert q; decide +kernel⟩,
    ⟨works .running (.space .forward) (entry 4 1 0 0 (tape .running .forward live)),
      by decide +kernel⟩,
    ⟨tape .running .reverse live, by decide +kernel⟩, live, by decide +kernel⟩

/-- A unit of M0 that BOM finds. -/
def towardsBom (m : Motion) (w : Work) (flags : Byte) : State :=
  works .running w (tape m .reverse (entry 5 1 flags 0 (results 15 0 live)))

/-- The unit and the motion under which BOM ends an entry, and with which outcome. -/
abbrev bomEnds (s : State) (o : EntryOutcome) : Prop :=
  s.xp.levels.bom = false ∧ s.seq.state ∈ [.running, .stopping] ∧ s.host.results.length < 16 ∧
    ((s.xp.motion = .rewinding ∧ s.seq.work = .rewind ∧ s.xp.unloadInd = false ∧ o = .done) ∨
      (s.xp.motion ∈ [.starting, .running, .stopping] ∧ s.xp.dir = .reverse ∧
        s.seq.work ∈ [.space .reverse, .seek .reverse] ∧ o = .bomMet))

theorem witness_BomRiseIsBomReached :
    (∃ s : State, bomEnds s .done ∧ s.lastEntry) ∧
    (∃ s : State, bomEnds s .done ∧ s.seq.stopInd = true ∧ s.entryFollows) ∧
    (∃ s : State, bomEnds s .done ∧ s.seq.stopInd = false ∧ s.passFollows (.space .forward) ∧
      s.xp.levels.eom = false) ∧
    (∀ w ∈ [Work.space .reverse, .seek .reverse], ∀ m ∈ [Motion.starting, .running, .stopping],
      (∃ s : State, bomEnds s .bomMet ∧ s.seq.work = w ∧ s.xp.motion = m ∧
        s.entry.haltOnShort = true) ∧
      (∃ s : State, bomEnds s .bomMet ∧ s.seq.work = w ∧ s.xp.motion = m ∧ s.lastEntry ∧
        s.seq.stopInd = false ∧ s.entry.haltOnShort = false) ∧
      (∃ s : State, bomEnds s .bomMet ∧ s.seq.work = w ∧ s.xp.motion = m ∧
        s.seq.stopInd = true ∧ s.entry.haltOnShort = false) ∧
      ∃ s : State, bomEnds s .bomMet ∧ s.seq.work = w ∧ s.xp.motion = m ∧
        s.entry.haltOnShort = false ∧ s.seq.stopInd = false ∧ s.passFollows (.space .forward) ∧
        s.xp.levels.eom = false) ∧
    (∃ s : State, s.xp.levels.bom = false ∧ s.xp.motion = .rewinding ∧ s.xp.unloadInd = true) ∧
    (∀ m ∈ [Motion.starting, .running, .stopping], ∃ s : State, s.xp.levels.bom = false ∧
      s.xp.motion = m ∧ s.xp.dir = .reverse ∧ s.seq.state ∉ [.running, .stopping, .recovery]) ∧
    (∃ s : State, s.xp.levels.bom = false ∧ s.xp.motion = .unloading) ∧
    (∃ s : State, s.xp.levels.bom = false ∧
      s.xp.motion ∈ [.stopped, .fault, .notReady, .noCartridge]) ∧
    ∃ s : State, s.xp.levels.bom = false ∧ s.xp.motion = .running ∧ s.xp.dir = .forward :=
  ⟨⟨towardsBom .rewinding .rewind 0, by decide +kernel⟩,
    ⟨stopped (andThen 4 (towardsBom .rewinding .rewind 0)), by decide +kernel⟩,
    ⟨andThen 4 (towardsBom .rewinding .rewind 0), by decide +kernel⟩,
    fun w hw m hm => ⟨⟨towardsBom m w 4, by revert w m; decide +kernel⟩,
      ⟨towardsBom m w 0, by revert w m; decide +kernel⟩,
      ⟨stopped (towardsBom m w 0), by revert w m; decide +kernel⟩,
      andThen 4 (towardsBom m w 0), by revert w m; decide +kernel⟩,
    ⟨(towardsBom .rewinding .unload 0).setUnloadInd true, by decide +kernel⟩,
    fun m hm => ⟨tape m .reverse live, by revert m; decide +kernel⟩,
    ⟨tape .unloading .reverse live, by decide +kernel⟩, ⟨live, by decide +kernel⟩,
    tape .running .forward live, by decide +kernel⟩

/-- EOM may rise in forward motion (the units and episodes it ends: `witness_terminal_changes`). -/
abbrev eomDue (s : State) : Prop :=
  s.xp.levels.eom = false ∧ s.xp.motion ∈ [.starting, .running, .stopping] ∧ s.xp.dir = .forward ∧
    s.rch.phase = .silent ∧ (s.xp.motion ∈ [.starting, .running] ∨ s.xp.deferred = [])

theorem witness_EomRiseReleasesTheLines :
    (∃ s : State, eomDue s ∧ (∃ p, s.entryGivesBack p) ∧ s.host.results.length < 16 ∧
      s.xp.deferred = [.idle, .reverse] ∧ s.xp.levels.bom = true) ∧
    (∀ q ∈ [SeqState.idle, .postWait, .aborting], ∀ m ∈ [Motion.starting, .running, .stopping],
      (∃ s : State, eomDue s ∧ s.seq.state = q ∧ s.xp.motion = m ∧ s.seq.pendingResult = none) ∧
      ∃ s : State, eomDue s ∧ s.seq.state = q ∧ s.xp.motion = m ∧ s.seq.pendingResult ≠ none) ∧
    (∃ s : State, s.xp.levels.eom = false ∧ s.xp.dir = .reverse) ∧
    ∃ s : State, s.xp.levels.eom = false ∧ s.xp.motion ∉ [.starting, .running, .stopping] :=
  ⟨⟨(levels (fun l => { l with bom := true }) (aborts 15 .running)).setDeferred [.idle, .reverse],
      by decide +kernel,
      writeGivenBack _ 6 (by decide +kernel) (by decide +kernel) rfl (by decide +kernel),
      by decide +kernel⟩,
    fun q hq m hm => ⟨⟨works q .none (tape m .forward live), by revert q m; decide +kernel⟩,
      (waits (tape m .forward live)).setSeqState q, by revert q m; decide +kernel⟩,
    ⟨tape .running .reverse live, by decide +kernel⟩, live, by decide +kernel⟩

/-- A running entry met with the tape in a motion state, no burst open and nothing deferred. -/
abbrev entryMet (s : State) (q : SeqState) (m : Motion) : Prop :=
  s.seq.state = q ∧ s.xp.motion = m ∧ s.rch.phase = .silent ∧ s.xp.deferred = [] ∧
    s.host.results.length < 16 ∧ s.xp.levels.ready = true ∧ s.xp.levels.present = true ∧
    s.xp.rewindTimer ≠ none ∧ s.lastEntry ∧ s.xp.dir = .forward ∧ s.xp.levels.eom = false ∧
    s.seq.pendingResult = none

/-- A unit of M0 met in a motion state. -/
def unitMet (q : SeqState) (m : Motion) (w : Work) : State :=
  works q w (slot 3 .active .host 1 (tape m .forward (results 15 0 live)))

/-- An episode met in a motion state. -/
def episodeMet (q : SeqState) (m : Motion) (e : Episode) : State :=
  (unitMet q m .none).setEpisode (some e)

/-- What a terminal change or ABORT finds: a unit, a wait or an episode of each kind, in the motion states
that PRESENT_FALL, READY_FALL, EOM_RISE, REWIND_LIMIT_EXPIRY and ABORT speak of. -/
theorem witness_terminal_changes :
    ∀ m ∈ [Motion.starting, .running, .stopping, .rewinding, .stopped, .unloading],
      (∀ q ∈ [SeqState.running, .stopping],
        (∃ (s : State) (p : Pool), entryMet s q m ∧ s.seq.work = .writeSlot 3 ∧ s.entryGivesBack p) ∧
        (∃ (s : State) (p : Pool), entryMet s q m ∧ s.seq.work = .read 3 ∧ s.entryGivesBack p) ∧
        ∀ w ∈ [Work.space .reverse, .rewind, .unload, .waitHead], ∃ (s : State) (p : Pool),
          entryMet s q m ∧ s.seq.work = w ∧ s.entryGivesBack p) ∧
      ∀ q ∈ [SeqState.recovery, .frozen],
        (∃ (s : State) (p : Pool), entryMet s q m ∧ s.seq.episode = some (anEpisode 3) ∧
          s.entryGivesBack p) ∧
        (∃ (s : State) (p : Pool), entryMet s q m ∧
          s.seq.episode = some { anEpisode 3 with kind := .mark, slot := none } ∧
          s.entryGivesBack p) ∧
        ∃ (s : State) (p : Pool), entryMet s q m ∧
          s.seq.episode = some { anEpisode 3 with kind := .read } ∧ s.entryGivesBack p :=
  fun m hm =>
    ⟨fun q hq =>
      ⟨⟨unitMet q m (.writeSlot 3), _, by revert q m; decide +kernel, rfl, .inl
          ⟨by revert q m; decide +kernel, rfl, .inl ⟨3, rfl, by revert q m; decide +kernel, rfl⟩⟩⟩,
        ⟨unitMet q m (.read 3), _, by revert q m; decide +kernel, rfl, .inl
          ⟨by revert q m; decide +kernel, rfl, .inr (.inl ⟨3, rfl, by revert q m; decide +kernel,
            by revert q m; decide +kernel, rfl⟩)⟩⟩,
        fun w hw => ⟨unitMet q m w, _, by revert q m w; decide +kernel, rfl, .inl
          ⟨by revert q m w; decide +kernel, rfl, .inr (.inr ⟨by revert q m w; decide +kernel, rfl⟩)⟩⟩⟩,
    fun q hq =>
      ⟨⟨episodeMet q m (anEpisode 3), _, by revert q m; decide +kernel, rfl, .inr
          ⟨by revert q m; decide +kernel, _, rfl, .inl ⟨3, rfl, rfl, by revert q m; decide +kernel, rfl⟩⟩⟩,
        ⟨episodeMet q m { anEpisode 3 with kind := .mark, slot := none }, _, by revert q m; decide +kernel,
          rfl, .inr ⟨by revert q m; decide +kernel, _, rfl, .inr (.inl ⟨rfl, rfl⟩)⟩⟩,
        ⟨episodeMet q m { anEpisode 3 with kind := .read }, _, by revert q m; decide +kernel, rfl, .inr
          ⟨by revert q m; decide +kernel, _, rfl, .inr (.inr ⟨3, rfl, rfl, by revert q m; decide +kernel,
            rfl⟩)⟩⟩⟩⟩

theorem witness_CartridgeEdges :
    (∃ s : State, s.xp.levels.present = true ∧ s.seq.state = .idle ∧ s.rch.phase = .silent) ∧
    (∃ s : State, s.xp.levels.present = false ∧ s.xp.motion = .noCartridge) ∧
    (∃ s : State, s.xp.levels.present = false) ∧ ∃ s : State, s.xp.levels.present = true :=
  ⟨⟨live, by decide +kernel⟩, ⟨State.reset, by decide +kernel⟩, ⟨State.reset, rfl⟩, live, rfl⟩

theorem witness_ReadyAndPermitEdges :
    (∃ s : State, s.xp.levels.ready = true ∧ s.seq.state = .idle ∧ s.rch.phase = .silent ∧
      s.xp.motion ∈ [.starting, .running, .stopping, .rewinding, .stopped]) ∧
    (∀ m ∈ [Motion.unloading, .fault, .notReady, .noCartridge], ∃ s : State,
      s.xp.levels.ready = true ∧ s.xp.motion = m) ∧
    (∃ s : State, s.xp.levels.ready = false ∧ s.xp.motion ≠ .notReady) ∧
    (∃ s : State, s.xp.levels.ready = false ∧ s.xp.motion = .notReady ∧
      s.xp.levels.present = false) ∧
    (∃ s : State, s.xp.levels.ready = false ∧ s.xp.motion = .notReady ∧
      s.xp.levels.present = true) ∧
    (∃ s : State, s.xp.levels.wpermit = true ∧ s.wch.phase = .idle) ∧
    (∃ s : State, s.xp.levels.wpermit = true ∧ s.wch.phase = .after) ∧
    (∀ ph ∈ [WPhase.gap, .block, .erasing], ∃ (s : State) (n : SlotNo), s.xp.levels.wpermit = true ∧
      s.wch.phase = ph ∧ s.wch.egate = true ∧ s.seq.state = .running ∧ s.seq.episode = none ∧
      s.xp.deferred = [] ∧ s.xp.motion = .running ∧ s.host.results.length < 16 ∧
      s.seq.work = .writeSlot n ∧ (s.slot n).state = .active) ∧
    (∀ w ∈ [Work.writeMark, .erase, .waitHead], ∃ s : State, s.xp.levels.wpermit = true ∧
      s.wch.phase = .gap ∧ s.wch.egate = true ∧ s.seq.state = .running ∧ s.seq.episode = none ∧
      s.xp.deferred = [] ∧ s.xp.motion = .running ∧ s.host.results.length < 16 ∧
      s.seq.work = w) ∧
    ∃ s : State, s.xp.levels.wpermit = false :=
  ⟨⟨live, by decide +kernel⟩, fun m hm => ⟨tape m .forward live, by revert m; decide +kernel⟩,
    ⟨State.reset, by decide +kernel⟩, ⟨tape .notReady .forward State.reset, by decide +kernel⟩,
    ⟨tape .notReady .forward (levels (fun l => { l with ready := false }) live), by decide +kernel⟩,
    ⟨live, by decide +kernel⟩, ⟨inAfter (aVerify .waiting 0 0), by decide +kernel⟩,
    fun ph hp => ⟨works .running (.writeSlot 3) (channel ph (some (aUnit (.slot 3) .data (some 7))) none
      (inGap .ranOut)), 3, by revert ph; decide +kernel⟩,
    fun w hw => ⟨works .running w (inGap .ranOut), by revert w; decide +kernel⟩, State.reset, rfl⟩

theorem witness_TransportTimers :
    (∃ (s : State) (x : Byte), s.xp.motion = .starting ∧ s.xp.rampTimer = some x ∧
      s.wch.held = none ∧ s.xp.timing.linger ≠ 0) ∧
    (∀ q ∈ [SeqState.idle, .frozen, .running, .stopping, .recovery, .postWait],
      ∃ (s : State) (x : Byte), s.xp.motion = .stopping ∧ s.xp.rampTimer = some x ∧
        s.rch.phase = .silent ∧ s.seq.state = q ∧ s.xp.held = some (.dir .reverse) ∧
        s.xp.unloadInd = false) ∧
    (∃ (s : State) (x : Byte), s.xp.motion = .running ∧ s.xp.lingerTimer = some x) ∧
    (∃ (s : State) (x : Byte), s.xp.motion = .unloading ∧ s.xp.rewindTimer = some x ∧
      s.seq.state = .idle ∧ s.rch.phase = .silent) ∧
    ∃ s : State, s.xp.rampTimer = none ∧ s.xp.lingerTimer = none ∧ s.xp.rewindTimer = none :=
  ⟨⟨tape .starting .forward live, 1, by decide +kernel⟩,
    fun q hq => ⟨works q .none ((tape .stopping .forward live).hold (some (.dir .reverse))), 1,
      by revert q; decide +kernel⟩,
    ⟨tape .running .forward live, 1, by decide +kernel⟩,
    ⟨tape .unloading .reverse live, 1, by decide +kernel⟩, live, by decide +kernel⟩

theorem witness_TransportFollowOnSteps :
    (∃ s : State, s.xp.motion = .stopped ∧ s.xp.held = some (.dir .reverse) ∧
      s.xp.unloadInd = false ∧ s.xp.levels.bom = false) ∧
    (∃ s : State, s.xp.motion = .stopped ∧ s.xp.held = some (.dir .forward) ∧
      s.xp.unloadInd = false ∧ s.xp.levels.eom = false) ∧
    (∃ s : State, s.xp.deferred = [.stop] ∧ s.wch.phase ≠ .block ∧ s.xp.motion = .running) ∧
    (∃ s : State, s.xp.motion = .running ∧ s.xp.keptIdle = true ∧ s.xp.lingerTimer = none ∧
      s.xp.timing.linger ≠ 0) ∧
    (∃ s : State, s.xp.motion = .stopped ∧ s.xp.unloadInd = true) ∧
    ∃ s : State, s.xp.held = none ∧ s.xp.deferred = [] ∧ s.xp.keptIdle = false ∧
      s.xp.unloadInd = false :=
  ⟨⟨live.hold (some (.dir .reverse)), by decide +kernel⟩,
    ⟨live.hold (some (.dir .forward)), by decide +kernel⟩,
    ⟨(tape .running .forward live).setDeferred [.stop], by decide +kernel⟩,
    ⟨live.setXp { live.xp with motion := .running, keptIdle := true }, by decide +kernel⟩,
    ⟨live.setUnloadInd true, by decide +kernel⟩, live, by decide +kernel⟩

/-- One state meets the hypotheses of the four statements of what every step keeps, and takes a
step. -/
theorem witness_what_steps_keep :
    ∃ s t : State, s.gatesLawful ∧ s.pool.queuesLawful ∧ s.pos.lawful ∧ s.storesLawful ∧
      s.resultsLawful ∧ s.xp.timing.lawful ∧ s.stream.lawful ∧ s.pending = [.claim] ∧
      step s = .next t :=
  ⟨{ queued [3] (results 16 0 (entry 1 0 1 0 live)) with pending := [.claim] }, _,
    by decide +kernel, by decide +kernel, by decide +kernel, by decide +kernel, by decide +kernel,
    by decide +kernel, by decide +kernel, rfl, rfl⟩

end Sys2Proof.Tests
end

section
/-! SUPPORT. Rows and patterns of the recorded medium: the parity of a row, and why no six rows show both
patterns (R1, R4, R13). -/

namespace Sys2Proof.Machine

/-! ## Rows (R1) -/

/-- The running parity of a list of bits is the start flipped once for each bit set. -/
theorem foldl_xor_eq_countP (f : Nat → Bool) (l : List Nat) (p : Bool) :
    l.foldl (fun p i => p ^^ f i) p = (p ^^ decide (l.countP f % 2 = 1)) := by
  induction l generalizing p with
  | nil => simp
  | cons i l ih =>
    rw [List.foldl_cons, ih, List.countP_cons]
    cases f i
    · simp
    · have parity : decide ((l.countP f + 1) % 2 = 1) = !decide (l.countP f % 2 = 1) := by
        rw [Bool.eq_iff_iff]; simp; omega
      simp [parity]

/-- The parity of a word is that of its number of ones. -/
theorem oddOnes_iff_countP {w : Nat} (r : BitVec w) :
    oddOnes r = true ↔ (List.range w).countP (fun i => r.getLsbD i) % 2 = 1 := by
  simp [oddOnes, foldl_xor_eq_countP]

/-- One bit more on top adds its own parity. -/
theorem oddOnes_cons {w : Nat} (c : Bool) (r : BitVec w) :
    oddOnes (BitVec.cons c r) = (oddOnes r ^^ c) := by
  have low : ∀ (l : List Nat) (p : Bool), (∀ i ∈ l, i < w) →
      l.foldl (fun p i => p ^^ (BitVec.cons c r).getLsbD i) p =
        l.foldl (fun p i => p ^^ r.getLsbD i) p := by
    intro l p hl
    refine List.foldl_ext _ _ _ fun q i hi => ?_
    rw [BitVec.getLsbD_cons, if_neg (Nat.ne_of_lt (hl i hi))]
  rw [oddOnes, List.range_succ, List.foldl_append, low _ _ (fun i hi => List.mem_range.mp hi)]
  simp [oddOnes, BitVec.getLsbD_cons]

/-- Every row of a byte passes the row check. -/
@[simp] theorem rowPasses_rowOf (b : Byte) : rowPasses (rowOf b) = true := by
  simp [rowPasses, rowOf, oddOnes_cons]

/-- The data bits of a byte's row are the byte. -/
@[simp] theorem rowByte_rowOf (b : Byte) : rowByte (rowOf b) = b := by
  simp [rowByte, rowOf, BitVec.setWidth_cons]

/-- Different bytes have different rows. -/
@[simp] theorem rowOf_inj {a b : Byte} : rowOf a = rowOf b ↔ a = b :=
  ⟨fun h => by rw [← rowByte_rowOf a, h, rowByte_rowOf], fun h => by rw [h]⟩

@[simp] theorem rowPasses_silentRow : rowPasses silentRow = false := by decide

/-- No byte's row is silent. -/
@[simp] theorem rowOf_ne_silentRow (b : Byte) : rowOf b ≠ silentRow := by
  intro h
  have := rowPasses_rowOf b
  simp [h] at this

/-- The parities of two words add up in their exclusive or. -/
theorem oddOnes_xor {w : Nat} (r q : BitVec w) : oddOnes (r ^^^ q) = (oddOnes r ^^ oddOnes q) := by
  have key : ∀ (l : List Nat) (a b : Bool),
      l.foldl (fun p i => p ^^ (r ^^^ q).getLsbD i) (a ^^ b) =
        (l.foldl (fun p i => p ^^ r.getLsbD i) a ^^ l.foldl (fun p i => p ^^ q.getLsbD i) b) := by
    intro l
    induction l with
    | nil => exact fun _ _ => rfl
    | cons i l ih =>
      intro a b
      have step : (a ^^ b ^^ (r ^^^ q).getLsbD i) = ((a ^^ r.getLsbD i) ^^ (b ^^ q.getLsbD i)) := by
        simp [Bool.xor_left_comm]
      rw [List.foldl_cons, List.foldl_cons, List.foldl_cons, step, ih]
  exact key _ false false

/-- A row with one of its nine bits wrong fails where the row passed. -/
theorem rowPasses_flip (r : Row) {n : Nat} (hn : n < 9) :
    rowPasses (r ^^^ BitVec.ofNat 9 (2 ^ n)) = !rowPasses r := by
  have one : ∀ n < 9, oddOnes (BitVec.ofNat 9 (2 ^ n)) = true := by decide
  rw [rowPasses, oddOnes_xor, one n hn, Bool.xor_true, rowPasses]

/-- The row check bit is set exactly where the byte has an even number of ones. -/
theorem rowOf_check_bit (b : Byte) :
    (rowOf b).getLsbD 8 = true ↔ (List.range 8).countP (fun n => b.getLsbD n) % 2 = 0 := by
  have h := oddOnes_iff_countP b
  simp only [rowOf, BitVec.getLsbD_cons, if_true, Bool.not_eq_true', ← Bool.not_eq_true, h]
  omega

/-- Settles O43: the parity of a word is that of its number of ones, and an exclusive or adds
parities. -/
theorem rowsHaveOddOnes : Obligations.RowsHaveOddOnes := by
  refine ⟨fun b => ⟨fun n hn => ?_, rowOf_check_bit b, ?_, rowOf_ne_silentRow b, fun n hn => ?_⟩,
    oddOnes_iff_countP, rowPasses_silentRow⟩
  · rw [rowOf, BitVec.getLsbD_cons, if_neg (Nat.ne_of_lt hn)]
  · exact (oddOnes_iff_countP (rowOf b)).mp (rowPasses_rowOf b)
  · rw [rowPasses_flip _ hn, rowPasses_rowOf]; rfl

/-! ## Patterns (R4, R13) -/

/-- At most one row differs between six rows and a pattern that five of them agree with, and every
frame of the data pattern differs from the mark pattern's in the same place. -/
theorem agreeing_data_add_mark (rows : List Row) (h : rows.length = 6) :
    agreeing rows dataPattern + agreeing rows markPattern ≤ 6 := by
  obtain ⟨a, b, c, d, e, f, rfl⟩ : ∃ a b c d e f, rows = [a, b, c, d, e, f] := by
    match rows, h with
    | [a, b, c, d, e, f], _ => exact ⟨a, b, c, d, e, f, rfl⟩
  have apart : ∀ (r : Row) (x y : Byte), x ≠ y →
      (if r == rowOf x then 1 else 0) + (if r == rowOf y then 1 else 0) ≤ 1 := by
    intro r x y hxy
    by_cases hx : r = rowOf x <;> by_cases hy : r = rowOf y <;> simp_all
  simp only [agreeing, dataPattern, markPattern, List.zipWith_cons_cons, List.zipWith_nil_left,
    List.count_cons, List.count_nil, beq_true]
  have ha := apart a 0xAA 0x0F (by decide)
  have hb := apart b 0xAA 0xF0 (by decide)
  have hc := apart c 0xAA 0x99 (by decide)
  have hd := apart d 0xAA 0x99 (by decide)
  have he := apart e 0x55 0xF0 (by decide)
  have hf := apart f 0xE7 0x0F (by decide)
  omega

/-- Settles O44: six rows agree with the two patterns in six places together at most. -/
theorem patternsAreNeverConfused : Obligations.PatternsAreNeverConfused := by
  intro rows h
  have sum := agreeing_data_add_mark rows h
  refine ⟨by omega, fun hd => if_pos hd, fun hm => ?_⟩
  rw [recognise, if_neg (by omega), if_pos hm]

end Sys2Proof.Machine
end

section
/-! SUPPORT. The opening of a block at the end of its gap, and the rows with which a burst begins (R12,
R13, R97 to R100, R116). -/

namespace Sys2Proof.Machine

/-! ## The opening of a block (R97, R100) -/

/-- REWRITTEN is set on the slot of a re-attempt, and stays as it was on that of any other unit. -/
theorem State.markRewritten_slot {s : State} {u : WUnit} {n : SlotNo} (ht : u.target = .slot n) :
    s.markRewritten u = s.setPool (s.pool.put n
      { s.slot n with rewritten := (s.slot n).rewritten || u.reattempt }) := by
  cases hr : u.reattempt
  · have same : s.pool.put n { s.slot n with rewritten := (s.slot n).rewritten } = s.pool :=
      Pool.put_get s.pool n
    simp only [State.markRewritten, ht, hr, Bool.or_false, same]
    rfl
  · simp [State.markRewritten, ht, hr, State.slot, State.editSlot, Pool.edit]

/-- A record put in a slot's place with the length it had leaves the slot's bytes. -/
theorem Pool.bytes_put {p : Pool} {n : SlotNo} {r : SlotRecord} (h : r.length = (p.get n).length) :
    (p.put n r).bytes n = p.bytes n := by
  simp [Pool.bytes, Pool.get_put, h]

/-- Both gates are allowed with the tape RUNNING forward and WPERMIT present. -/
theorem State.mayGate_of_running {s : State} (hm : s.xp.motion = .running)
    (hd : s.xp.dir = .forward) (hw : s.xp.levels.wpermit = true) : s.mayGate = true := by
  simp [State.mayGate, Transport.runningForward, hm, hd, hw]

/-- The write channel as the block of a unit opens with given frames. -/
def WriteChannel.opened (w : WriteChannel) (u : WUnit) (lag : Byte) (frames : List Row) :
    WriteChannel :=
  { w with
    phase := .block
    unit := some u
    checkWritten := false
    wgate := true
    gapTimer := .stopped
    watchTimer := if u.verify then some lag else none
    deadline := none
    verify := some (.ofFrames frames) }

/-- The block of a DATA slot opens with the frames of R3. -/
theorem State.openBlock_data {s : State} {u : WUnit} {n : SlotNo} {x : Byte}
    (hu : s.wch.unit = some u) (hg : s.mayGate = true) (ht : u.target = .slot n)
    (hk : u.kind = .data) (hx : u.tag = some x) :
    s.openBlock = (s.setPool (s.pool.put n
        { s.slot n with rewritten := (s.slot n).rewritten || u.reattempt })).setWch
      (s.wch.opened u s.xp.timing.verifyLag (blockFrames
        { kind := .data, stream := (s.slot n).source == some .stream
          discontinuity := (s.slot n).discontinuity
          rewritten := (s.slot n).rewritten || u.reattempt, tag := x
          length := (s.slot n).length } (s.pool.bytes n))) := by
  have bytes := Pool.bytes_put (p := s.pool) (n := n)
    (r := { s.slot n with rewritten := (s.slot n).rewritten || u.reattempt }) rfl
  simp [State.openBlock, hu, hg, State.takeMarkTag, ht, State.markRewritten_slot ht,
    State.unitHeader, State.unitData, hk, hx, State.slot, Pool.get_put, WriteChannel.opened]
  rw [← bytes]
  rfl

/-- The mark of a MARK unit takes the next tag as its block opens. -/
theorem State.openBlock_mark {s : State} {u : WUnit} (hu : s.wch.unit = some u)
    (hg : s.mayGate = true) (ht : u.target = .markUnit)
    (hx : u.tag = none) :
    s.openBlock = (s.setPool { s.pool with tag := s.pool.tag + 1 }).setWch
      (s.wch.opened { u with tag := some s.pool.tag } s.xp.timing.verifyLag (blockFrames
        { kind := .mark, stream := false, discontinuity := false, rewritten := u.reattempt
          tag := s.pool.tag, length := 0 } [])) := by
  simp [State.openBlock, hu, hg, State.takeMarkTag, ht, hx, State.markRewritten,
    State.unitHeader, State.unitData, WriteChannel.opened]

/-- GAP_TIMER_EXPIRY in GAP opens the block. -/
theorem exec_gapTimerExpiry_gap {s : State} {g : Byte} (hp : s.wch.phase = .gap)
    (hg : s.wch.gapTimer = .running g) :
    exec .gapTimerExpiry s =
      .next (s.setWch { s.wch with gapTimer := .ranOut }).openBlock := by
  show execGapTimerExpiry s = _
  simp [execGapTimerExpiry, hg, hp]

/-- BLOCK_OPEN_ON_CLASSIFY opens a block that is due. -/
theorem exec_blockOpenOnClassify_due {s : State} (hp : s.wch.phase = .gap)
    (hg : s.wch.gapTimer = .ranOut) (hv : s.wch.verify = none) :
    exec .blockOpenOnClassify s = .next s.openBlock := by
  show execBlockOpenOnClassify s = _
  simp [execBlockOpenOnClassify, hp, hg, hv]

/-- Settles O37: the two commands open the block of the channel's unit, and `openBlock_data` and
`openBlock_mark` say what it opens with. -/
theorem blockOpensAfterTheGap : Obligations.BlockOpensAfterTheGap := by
  refine ⟨?data, ?mark, ?outside, ?stopped⟩
  case data =>
    intro s u n x g hp hu hm hd hw ht hk hx
    have gate := State.mayGate_of_running hm hd hw
    refine ⟨fun hg => ⟨_, exec_gapTimerExpiry_gap hp hg, ?_⟩, fun hg hv =>
      ⟨_, exec_blockOpenOnClassify_due hp hg hv, ?_⟩⟩
    · rw [State.openBlock_data (s := s.setWch { s.wch with gapTimer := .ranOut }) (n := n) hu gate ht hk hx]
      exact ⟨rfl, rfl, rfl, rfl, rfl, rfl, rfl, rfl, rfl, rfl, rfl⟩
    · rw [State.openBlock_data (n := n) hu gate ht hk hx]
      exact ⟨rfl, rfl, rfl, rfl, rfl, rfl, rfl, rfl, rfl⟩
  case mark =>
    intro s u g hp hu hg hm hd hw ht hk hx
    have gate := State.mayGate_of_running hm hd hw
    refine ⟨_, exec_gapTimerExpiry_gap hp hg, ?_⟩
    rw [State.openBlock_mark (s := s.setWch { s.wch with gapTimer := .ranOut }) hu gate ht hx]
    exact ⟨rfl, rfl, rfl, rfl⟩
  case outside =>
    intro s g hp hg
    show execGapTimerExpiry s = _
    simp [execGapTimerExpiry, hg, hp, State.setWch]
  case stopped =>
    intro s hg
    show execGapTimerExpiry s = _ ∧ execBlockOpenOnClassify s = _
    simp [execGapTimerExpiry, execBlockOpenOnClassify, hg]

/-! ## Rows at the read head (R12, R13, R116) -/

@[simp] theorem State.setRch_setRch (r r' : ReadChannel) (s : State) :
    (s.setRch r).setRch r' = s.setRch r' := rfl

@[simp] theorem State.setRch_readTarget (r : ReadChannel) (s : State) :
    (s.setRch r).readTarget = s.readTarget := rfl

/-- The channel listens in STARTING and in RUNNING. -/
theorem Transport.listening_of_motion {x : Transport} (h : x.motion ∈ [.starting, .running]) :
    x.listening = true := by
  rcases List.mem_pair.mp h with h | h <;>
    simp [Transport.listening, Transport.ramping, Transport.fastLine, h]

/-- With the write channel IDLE, the read channel takes a row of a tape at running speed. -/
theorem exec_readHeadRow_idle {s : State} (x y : Row) (hm : s.xp.motion ∈ [.starting, .running])
    (hw : s.wch.phase = .idle) : exec (.readHeadRow x y) s = .next (s.readRow x y) := by
  show execReadHeadRow x y s = _
  simp [execReadHeadRow, Transport.listening_of_motion hm, hw]

/-- A silent row leaves a SILENT channel as it is. -/
theorem State.readRow_silent {s : State} (x : Row) (hp : s.rch.phase = .silent) :
    s.readRow x silentRow = s := by
  simp [State.readRow, State.takeRow, State.inBurst, hp]

/-- With no silent row held back there is none to take up. -/
theorem State.keepSilentRows_nil {s : State} (h : s.rch.silentRows = []) :
    s.keepSilentRows = s := by
  have same : s.setRch { s.rch with silentRows := s.rch.silentRows } = s := rfl
  rw [State.keepSilentRows, ← h, same, h, List.foldl_nil]

/-- An active row of a burst is a row of the burst. -/
theorem State.takeRow_active {s : State} (x : Row) {y : Row} (hy : y ≠ silentRow)
    (hp : s.rch.phase ≠ .silent) (hs : s.rch.silentRows = []) :
    s.takeRow x y = (s.burstRow (x, y), none) := by
  simp [State.takeRow, hy, State.inBurst, hp, State.keepSilentRows_nil hs]

/-- The first active row after silence begins a burst. -/
theorem State.takeRow_first {s : State} (x : Row) {y : Row} (hy : y ≠ silentRow)
    (hp : s.rch.phase = .silent) : s.takeRow x y = (s.setRch { s.rch.quiet with
      phase := .pattern, patRows := [y], silence := s.xp.timing.readSilence
      eligible := s.readTarget.isSome }, none) := by
  simp [State.takeRow, hy, State.inBurst, hp, State.beginBurst, State.burstRow, ReadChannel.quiet,
    Config.patternFrames, State.setRch]

/-- An active row hands no detection on. -/
theorem State.readRow_active {s : State} (x : Row) {y : Row}
    (hp : (s.takeRow x y).1.rch.phase ≠ .silent) : s.readRow x y = (s.takeRow x y).1 := by
  simp [State.readRow, State.inBurst, hp]

/-- The sixth row of a burst shows its pattern. -/
theorem State.burstRow_sixth {s : State} (r : Row × Row) (hp : s.rch.phase = .pattern)
    (hl : s.rch.patRows.length = 5) :
    s.burstRow r = (s.setRch { s.rch with patRows := s.rch.patRows ++ [r.2] }).recognised := by
  simp [State.burstRow, hp, hl, Config.patternFrames]

/-- A pattern that is not recognised has the burst passed over. -/
theorem State.recognised_none {s : State} {rows : List Row} (h : recognise rows = none) :
    (s.setRch { s.rch with patRows := rows }).recognised =
      s.setRch { s.rch with phase := .passing, patRows := rows } := by
  simp [State.recognised, h]

/-- A recognised pattern is the body's candidate; with no slot held nothing is stored. -/
theorem State.recognised_noTarget {s : State} {rows : List Row} {k : BlockKind}
    (h : recognise rows = some k) (ht : s.readTarget = none) :
    (s.setRch { s.rch with patRows := rows }).recognised =
      s.setRch { s.rch with phase := .body, cand := some k, patRows := rows } := by
  simp [State.recognised, h, ht]

/-- Settles O42: what a row does to the channel in each phase of a burst's beginning. -/
theorem readHeadRowsMakeBursts : Obligations.ReadHeadRowsMakeBursts := by
  refine ⟨?atRest, ?silence, ?first, ?noPattern, ?pattern⟩
  case atRest =>
    intro x y s hm
    show execReadHeadRow x y s = _
    simp only [List.mem_cons, List.not_mem_nil, or_false, not_or] at hm
    obtain ⟨h1, h2, h3⟩ := hm
    simp [execReadHeadRow, Transport.listening, Transport.ramping]
  case silence =>
    intro x s hw hp
    show execReadHeadRow x silentRow s = _
    simp [execReadHeadRow, hw, State.readRow_silent x hp]
  case first =>
    intro x y s hm hw hp hy
    rw [exec_readHeadRow_idle x y hm hw, State.readRow_active x, State.takeRow_first x hy hp]
    · rfl
    · simp [State.takeRow_first x hy hp]
  case noPattern =>
    intro x y s hm hw hp hy hs hl hr
    have row : s.takeRow x y = (s.setRch { s.rch with
        phase := .passing, patRows := s.rch.patRows ++ [y] }, none) := by
      rw [State.takeRow_active x hy (by simp [hp]) hs, State.burstRow_sixth _ hp hl,
        State.recognised_none hr]
    rw [exec_readHeadRow_idle x y hm hw, State.readRow_active x (by simp [row]), row]
    rfl
  case pattern =>
    intro x y s k hm hw hp hy hs hl hr ht
    have row : s.takeRow x y = (s.setRch { s.rch with
        phase := .body, cand := some k, patRows := s.rch.patRows ++ [y] }, none) := by
      rw [State.takeRow_active x hy (by simp [hp]) hs, State.burstRow_sixth _ hp hl,
        State.recognised_noTarget hr ht]
    rw [exec_readHeadRow_idle x y hm hw, State.readRow_active x (by simp [row]), row]
    rfl

end Sys2Proof.Machine
end

section
/-! SUPPORT. A block as the formatter writes it, read back: the row window, the assembly of its header and
data, and the judgment of its checks (R3 to R8, R117 to R132). -/

namespace Sys2Proof.Machine

/-! ## Headers and checks (R5 to R8) -/

/-- The header bytes of a block of up to 2,047 bytes give its header back. -/
theorem Header.ofList_bytes (h : Header) (hl : h.length < 2048) : Header.ofList h.bytes = some h := by
  obtain ⟨kind, stream, discontinuity, rewritten, tag, length⟩ := h
  have count : (loByte length).toNat + 256 * ((BitVec.ofNat 8 (length / 256 % 8)).toNat % 8) =
      length := by
    simp only [loByte, BitVec.toNat_ofNat]
    simp only at hl
    omega
  have flags : ∀ (k : BlockKind) (a b c : Bool),
      let x := bitAt 7 (k == .mark) ||| bitAt 0 a ||| bitAt 1 b ||| bitAt 2 c
      (if x.getLsbD 7 then BlockKind.mark else .data) = k ∧ x.getLsbD 0 = a ∧ x.getLsbD 1 = b ∧
        x.getLsbD 2 = c := by
    intro k a b c
    cases k <;> revert a b c <;> decide
  obtain ⟨hk, hs, hd, hr⟩ := flags kind stream discontinuity rewritten
  simp only [Header.ofList, Header.bytes, Header.ofBytes, hk, hs, hd, hr, count]

/-- The judgment of a body of `len` data bytes with a readable header, whose checks hold (R122). -/
def Header.whole (h : Header) (len : Nat) : Judgment :=
  { header := some h, headerBad := false, lengthMismatch := decide (h.length ≠ len)
    lrcFail := false, crcFail := false }

theorem lrcOf_append (bs : List Byte) (b : Byte) : lrcOf (bs ++ [b]) = lrcOf bs ^^^ b := by
  simp [lrcOf]

theorem crcOf_append (bs : List Byte) (b : Byte) : crcOf (bs ++ [b]) = crcByte (crcOf bs) b := by
  simp [crcOf]

/-! ## A byte appended to a slot (R121) -/

/-- The bytes of a slot are as many as its length. -/
@[simp] theorem Pool.length_bytes (p : Pool) (n : SlotNo) :
    (p.bytes n).length = (p.get n).length := by
  simp [Pool.bytes]

/-- An edit leaves the state of the slot's record. -/
theorem Pool.get_edit (p : Pool) (n : SlotNo) (f : SlotRecord → SlotRecord) :
    (p.edit n f).get n = { f (p.get n) with state := (p.get n).state } :=
  (Pool.get_put p n n _).trans (if_pos rfl)

/-- A byte appended makes the slot one byte longer and leaves the rest of its record. -/
theorem Pool.get_append {p : Pool} {n : SlotNo} (b : Byte) (h : (p.get n).length < 1024) :
    (p.append n b).get n = { p.get n with length := (p.get n).length + 1 } := by
  rw [Pool.append, if_pos (show _ < Config.slotBytes from h)]
  exact (Pool.get_put p n n _).trans (if_pos rfl)

/-- A byte appended leaves the store in its canonical form. -/
theorem Pool.append_wf {p : Pool} (n : SlotNo) (b : Byte) (h : p.data.wf = true) :
    (p.append n b).data.wf = true := by
  unfold Pool.append
  split
  · exact Memory.write_wf _ b h
  · exact h

/-- A byte appended stands after the bytes that the slot held. -/
theorem Pool.bytes_append {p : Pool} {n : SlotNo} (b : Byte) (h : (p.get n).length < 1024)
    (hw : p.data.wf = true) : (p.append n b).bytes n = p.bytes n ++ [b] := by
  have data : (p.append n b).data = p.data.write (slotAddr n (p.get n).length) b := by
    rw [Pool.append, if_pos (show _ < Config.slotBytes from h)]
  have before : ∀ k ∈ List.range (p.get n).length,
      (p.append n b).data.read (slotAddr n k) = p.data.read (slotAddr n k) := by
    intro k hk
    have apart : slotAddr n k ≠ slotAddr n (p.get n).length := by
      have := List.mem_range.mp hk
      simp only [slotAddr]
      omega
    rw [data, Memory.read_write_other b hw apart]
  have last : (p.append n b).data.read (slotAddr n (p.get n).length) = b := by
    rw [data, Memory.read_write_same b hw]
  simp only [Pool.bytes, Pool.get_append b h, List.range_succ, List.map_append, List.map_cons,
    List.map_nil, last, List.map_congr_left before]

/-! ## Frames as a channel with or without strict rows selects them (R120) -/

/-- The strict row that goes with a lenient row: the same row, or where the strict level senses nothing
a silent one. -/
def strictRow (weak : Bool) (row : Row) : Row := if weak then silentRow else row

/-- The row window's entry for the row of a byte. -/
def winRow (weak : Bool) (b : Byte) : WinRow :=
  { strict := strictRow weak (rowOf b), lenient := rowOf b, frame := rowOf b
    finding := if weak then .fallback else .sound }

/-- The lenient row of a byte is selected, as fallback where the strict row is silent. -/
theorem selectFrame_rowOf (weak : Bool) (b : Byte) :
    selectFrame (strictRow weak (rowOf b)) (rowOf b) = winRow weak b := by
  cases weak <;> simp [selectFrame, strictRow, winRow]

@[simp] theorem rowByte_winRow (weak : Bool) (b : Byte) : rowByte (winRow weak b).frame = b :=
  rowByte_rowOf b

/-! ## A body being assembled (R121, R132) -/

/-- The capture record and its taken flag once the bytes `bs` are committed: fallback frames fill it with
the first of them, sound ones leave it. -/
def CapturedFirst (c₀ : Option Capture) (n : SlotNo) (weak : Bool) (bs : List Byte)
    (c : Option Capture) (taken : Bool) : Prop :=
  if weak = true ∧ bs ≠ [] then
    taken = true ∧ ∃ y, c = some
      { kind := .read, slot := some n, index := 6, expected := none, strict := silentRow,
        lenient := y, cls := none }
  else taken = false ∧ c = c₀

theorem capturedFirst_nil (c₀ : Option Capture) (n : SlotNo) (weak : Bool) :
    CapturedFirst c₀ n weak [] c₀ false := by
  simp [CapturedFirst]

/-- From `s₀`, the header and data bytes `bs` of a forward DATA block have been committed in `s`, its
target the slot `n`. -/
structure State.Assembled (s₀ : State) (n : SlotNo) (weak : Bool) (bs : List Byte) (s : State) :
    Prop where
  phase : s.rch.phase = .body
  cand : s.rch.cand = some .data
  silentRows : s.rch.silentRows = []
  target : s.rch.target = some n
  straddle : s.rch.straddle = none
  tagMem : s.rch.tagMem = s₀.rch.tagMem
  dir : s.xp.dir = .forward
  seq : s.seq = s₀.seq
  pos : s.pos = s₀.pos
  header : s.rch.asm.header = bs.take 4
  headerError : s.rch.asm.headerError = false
  fallback : s.rch.asm.fallback = if weak then bs.length else 0
  errors : s.rch.asm.errors = 0
  lrc : s.rch.asm.lrc = lrcOf bs
  crc : s.rch.asm.crc = crcOf bs
  committed : s.rch.asm.committed = bs.length
  overlength : s.rch.asm.overlength = false
  capture : CapturedFirst s₀.capture n weak bs s.capture s.rch.asm.captureTaken
  wf : s.pool.data.wf = true
  bytes : s.pool.bytes n = bs.drop 4

namespace State

variable {s₀ s : State} {n : SlotNo} {weak : Bool} {bs win : List Byte}

/-- What the capture record does with one more frame: it is filled by the first fallback frame and by no
other. -/
theorem Assembled.captureFrame (h : Assembled s₀ n weak bs s)
    (hf : weak = true → s₀.seq.state ≠ .frozen) (b : Byte) :
    ∃ c taken, s.captureFrame (winRow weak b) =
        (s.setCapture c).setAsm { s.rch.asm with captureTaken := taken } ∧
      CapturedFirst s₀.capture n weak (bs ++ [b]) c taken := by
  have same : s = (s.setCapture s.capture).setAsm
      { s.rch.asm with captureTaken := s.rch.asm.captureTaken } := rfl
  have captured := h.capture
  cases weak
  · refine ⟨_, _, ?_, by simpa [CapturedFirst] using captured⟩
    refine Eq.trans ?_ same
    simp [State.captureFrame, h.target, winRow]
  · rcases eq_or_ne bs [] with rfl | hne
    · obtain ⟨taken, -⟩ : s.rch.asm.captureTaken = false ∧ _ := by
        simpa [CapturedFirst] using captured
      refine ⟨some
        { kind := .read, slot := some n, index := 6, expected := none, strict := silentRow,
          lenient := rowOf b, cls := none }, true, ?_, by simp [CapturedFirst]⟩
      have live : s.seq.state ≠ .frozen := by rw [h.seq]; exact hf rfl
      have index := h.committed
      simp [State.captureFrame, h.target, winRow, taken, live, index, Config.patternFrames,
        State.captureRead, strictRow]
    · obtain ⟨taken, hc⟩ : s.rch.asm.captureTaken = true ∧ _ := by
        simpa [CapturedFirst, hne] using captured
      refine ⟨_, _, Eq.trans ?_ same, by simpa [CapturedFirst] using ⟨taken, hc⟩⟩
      simp [State.captureFrame, h.target, taken]


/-- One more header or data byte is committed. -/
theorem Assembled.commitFrame (h : Assembled s₀ n weak bs s) (hl : bs.length < 1028)
    (hf : weak = true → s₀.seq.state ≠ .frozen) (b : Byte) :
    Assembled s₀ n weak (bs ++ [b]) (s.commitFrame (winRow weak b)) := by
  obtain ⟨c, taken, frame, captured⟩ := h.captureFrame hf b
  have count : (if weak then bs.length + 1 else 0) =
      if (winRow weak b).finding = .fallback then s.rch.asm.fallback + 1 else s.rch.asm.fallback := by
    cases weak <;> simp [winRow, h.fallback]
  have noError : (winRow weak b).finding ≠ .error := by cases weak <;> simp [winRow]
  have noError' : ((winRow weak b).finding == .error) = false := by simpa using noError
  by_cases hdr : bs.length < 4
  · have eq : s.commitFrame (winRow weak b) = (s.setCapture c).setAsm (((({ s.rch.asm with
        captureTaken := taken, header := s.rch.asm.header ++ [b], headerError := false } :
          Assembly).count (winRow weak b)).check b)) := by
      simp [State.commitFrame, frame, State.setAsm, h.committed, hdr, h.headerError, noError']
    rw [eq]
    exact
      { phase := h.phase, cand := h.cand, silentRows := h.silentRows, target := h.target
        straddle := h.straddle, tagMem := h.tagMem, dir := h.dir, seq := h.seq, pos := h.pos
        header := by
          show s.rch.asm.header ++ [b] = _
          rw [h.header, List.take_of_length_le (by omega), List.take_of_length_le (by simp; omega)]
        headerError := rfl
        fallback := by rw [List.length_append]; exact count.symm
        errors := (if_neg noError).trans h.errors
        lrc := by rw [lrcOf_append, ← h.lrc]; rfl
        crc := by rw [crcOf_append, ← h.crc]; rfl
        committed := by rw [List.length_append, ← h.committed]; rfl
        overlength := h.overlength
        capture := captured
        wf := h.wf
        bytes := by
          have old := h.bytes
          rw [List.drop_of_length_le (by omega)] at old
          rw [List.drop_of_length_le (by simp; omega)]
          exact old }
  · have eq : s.commitFrame (winRow weak b) = ((s.setCapture c).setAsm ((({ s.rch.asm with
        captureTaken := taken } : Assembly).count (winRow weak b)).check b)).setPool
          (s.pool.append n b) := by
      simp [State.commitFrame, frame, State.setAsm, h.committed, hdr, h.target]
    have room : (s.pool.get n).length < 1024 := by
      rw [← Pool.length_bytes, h.bytes, List.length_drop]
      omega
    rw [eq]
    exact
      { phase := h.phase, cand := h.cand, silentRows := h.silentRows, target := h.target
        straddle := h.straddle, tagMem := h.tagMem, dir := h.dir, seq := h.seq, pos := h.pos
        header := by
          show s.rch.asm.header = _
          rw [h.header, List.take_append_of_le_length (by omega)]
        headerError := h.headerError
        fallback := by rw [List.length_append]; exact count.symm
        errors := (if_neg noError).trans h.errors
        lrc := by rw [lrcOf_append, ← h.lrc]; rfl
        crc := by rw [crcOf_append, ← h.crc]; rfl
        committed := by rw [List.length_append, ← h.committed]; rfl
        overlength := h.overlength
        capture := captured
        wf := Pool.append_wf n b h.wf
        bytes := by
          rw [List.drop_append_of_le_length (by omega), ← h.bytes]
          exact Pool.bytes_append b room h.wf }

/-- A frame committed leaves the row window and the count of rows. -/
theorem commitFrame_window (w : WinRow) (s : State) :
    (s.commitFrame w).rch.window = s.rch.window ∧
      (s.commitFrame w).rch.rowsAfter = s.rch.rowsAfter := by
  have frame : (s.captureFrame w).rch.window = s.rch.window ∧
      (s.captureFrame w).rch.rowsAfter = s.rch.rowsAfter := by
    unfold State.captureFrame
    split
    · exact ⟨rfl, rfl⟩
    · split <;> exact ⟨rfl, rfl⟩
  unfold State.commitFrame
  dsimp only
  split
  · exact frame
  · split <;> exact frame

/-! ## The row window (R121) -/

/-- While the window has room, a row enters it and nothing is committed. -/
theorem bodyRow_fill {x y : Row} (ho : s.rch.asm.overlength = false)
    (hw : s.rch.window.length < 9) : s.bodyRow x y = s.setRch { s.rch with
      rowsAfter := s.rch.rowsAfter + 1, window := s.rch.window ++ [selectFrame x y] } := by
  have room : s.rch.window.length + 1 ≤ Config.windowRows := hw
  simp [State.bodyRow, ho, room]

/-- From a full window the oldest row is committed. -/
theorem bodyRow_commit {x y : Row} {w : WinRow} {ws : List WinRow}
    (ho : s.rch.asm.overlength = false) (hw : s.rch.window = w :: ws) (hl : ws.length = 8)
    (hr : s.rch.rowsAfter + 1 < 1038) : s.bodyRow x y = (s.setRch { s.rch with
      rowsAfter := s.rch.rowsAfter + 1, window := ws ++ [selectFrame x y] }).commitFrame w := by
  simp [State.bodyRow, ho, hw, hl, Config.windowRows, Config.overlengthRow, hr]

/-- From `s₀`, the bytes `bs` have been committed in `s`, and the row window holds the rows of the bytes
`win` after them. -/
structure Taking (s₀ : State) (n : SlotNo) (weak : Bool) (bs win : List Byte) (s : State) : Prop
    extends State.Assembled s₀ n weak bs s where
  window : s.rch.window = win.map (winRow weak)
  rows : s.rch.rowsAfter = bs.length + win.length
  kept : win.length ≤ 9
  full : bs ≠ [] → win.length = 9

/-- A change of the row window and of the count of rows. -/
theorem Assembled.atWindow (h : Assembled s₀ n weak bs s) (k : Nat) (w : List WinRow) :
    Assembled s₀ n weak bs (s.setRch { s.rch with rowsAfter := k, window := w }) :=
  { h with }

/-- The blank timer's stop. -/
theorem Taking.stopBlank (h : Taking s₀ n weak bs win s) : Taking s₀ n weak bs win s.stopBlank :=
  { h with }

/-- One more row of the body. -/
theorem Taking.bodyRow (h : Taking s₀ n weak bs win s) (hl : bs.length < 1028)
    (hf : weak = true → s₀.seq.state ≠ .frozen) (b : Byte) :
    ∃ bs' win', bs' ++ win' = bs ++ win ++ [b] ∧
      Taking s₀ n weak bs' win' (s.bodyRow (strictRow weak (rowOf b)) (rowOf b)) := by
  have window := h.window
  have rows := h.rows
  rcases h.kept.lt_or_eq with room | full
  · rw [bodyRow_fill h.overlength (by simpa [window] using room)]
    refine ⟨bs, win ++ [b], by simp, { h.toAssembled.atWindow _ _ with
      window := by simp [window, selectFrame_rowOf]
      rows := by simp [rows]; omega
      kept := by simp; omega
      full := fun hb => absurd (h.full hb) (by omega) }⟩
  · obtain ⟨c, ws, rfl⟩ := List.exists_cons_of_length_eq_add_one full
    have len : ws.length = 8 := by simpa using full
    rw [bodyRow_commit h.overlength (by simpa using window) (by simpa using len)
      (by simp at rows; omega)]
    obtain ⟨sameWindow, sameRows⟩ := commitFrame_window (winRow weak c) (s.setRch { s.rch with
      rowsAfter := s.rch.rowsAfter + 1
      window := ws.map (winRow weak) ++ [selectFrame (strictRow weak (rowOf b)) (rowOf b)] })
    refine ⟨bs ++ [c], ws ++ [b], by simp, { (h.toAssembled.atWindow _ _).commitFrame hl hf c with
      window := by rw [sameWindow]; simp [selectFrame_rowOf]
      rows := by rw [sameRows]; simp [rows]; omega
      kept := by simp; omega
      full := fun _ => by simp; omega }⟩

/-- One more row of the body as the channel takes it. -/
theorem Taking.takeRow (h : Taking s₀ n weak bs win s) (hl : bs.length < 1028)
    (hf : weak = true → s₀.seq.state ≠ .frozen) (b : Byte) :
    ∃ bs' win', bs' ++ win' = bs ++ win ++ [b] ∧
      Taking s₀ n weak bs' win' (s.takeRow (strictRow weak (rowOf b)) (rowOf b)).1 := by
  obtain ⟨bs', win', e, h'⟩ := h.bodyRow hl hf b
  refine ⟨bs', win', e, ?_⟩
  rw [State.takeRow_active _ (rowOf_ne_silentRow b) (by simp [h.phase]) h.silentRows]
  simp only [State.burstRow, h.phase, h.dir]
  split
  · exact h'.stopBlank
  · exact h'

/-- The rows of a list of bytes, taken one after the other. -/
def takeBytes (weak : Bool) (bytes : List Byte) (s : State) : State :=
  (bytes.map rowOf).foldl (fun s row => (s.takeRow (strictRow weak row) row).1) s

theorem takeBytes_append (weak : Bool) (l l' : List Byte) (s : State) :
    takeBytes weak (l ++ l') s = takeBytes weak l' (takeBytes weak l s) := by
  simp [takeBytes]

/-- The rows of a body of at most 1,037 bytes. -/
theorem Taking.takeBytes (h : Taking s₀ n weak bs win s) (hf : weak = true → s₀.seq.state ≠ .frozen)
    (l : List Byte) (hl : bs.length + win.length + l.length ≤ 1037) :
    ∃ bs' win', bs' ++ win' = bs ++ win ++ l ∧
      Taking s₀ n weak bs' win' (State.takeBytes weak l s) := by
  induction l generalizing bs win s with
  | nil => exact ⟨bs, win, by simp, h⟩
  | cons b l ih =>
    have total : bs.length + win.length + (l.length + 1) ≤ 1037 := hl
    have some : bs.length < 1028 := by
      rcases eq_or_ne bs [] with rfl | hne
      · simp
      · have := h.full hne
        omega
    obtain ⟨bs₁, win₁, e₁, h₁⟩ := h.takeRow some hf b
    have len : bs₁.length + win₁.length = bs.length + win.length + 1 := by
      have := congrArg List.length e₁
      simp at this
      omega
    obtain ⟨bs₂, win₂, e₂, h₂⟩ := ih h₁ (by omega)
    exact ⟨bs₂, win₂, by rw [e₂, e₁]; simp, h₂⟩


/-! ## The pattern of a written block (R13, R117) -/

/-- The rows before the sixth are kept for the pattern. -/
theorem takeBytes_pattern {l : List Byte} (hp : s.rch.phase = .pattern)
    (hs : s.rch.silentRows = []) (hl : s.rch.patRows.length + l.length ≤ 5) :
    takeBytes weak l s = s.setRch { s.rch with patRows := s.rch.patRows ++ l.map rowOf } := by
  induction l generalizing s with
  | nil => simp [takeBytes, State.setRch]
  | cons b l ih =>
    have row : (s.takeRow (strictRow weak (rowOf b)) (rowOf b)).1 =
        s.setRch { s.rch with patRows := s.rch.patRows ++ [rowOf b] } := by
      have short : s.rch.patRows.length + 1 < Config.patternFrames := by
        simp only [List.length_cons] at hl
        show _ < 6
        omega
      rw [State.takeRow_active _ (rowOf_ne_silentRow b) (by simp [hp]) hs]
      simp [State.burstRow, hp, short]
    have rest := ih (s := s.setRch { s.rch with patRows := s.rch.patRows ++ [rowOf b] }) hp hs
      (by simp at hl ⊢; omega)
    calc takeBytes weak (b :: l) s
        = takeBytes weak l (s.takeRow (strictRow weak (rowOf b)) (rowOf b)).1 := rfl
      _ = _ := by rw [row, rest]; simp

/-- The sixth row of the data pattern, met forward with the slot `n` held since before the burst, has the
body assembled into that slot. -/
theorem recognised_data {rows : List Row} (hr : recognise rows = some .data)
    (ht : s.readTarget = some n) (hd : s.xp.dir = .forward) (he : s.rch.eligible = true) :
    (s.setRch { s.rch with patRows := rows }).recognised = (s.resetClaim n).setRch { s.rch with
      phase := .body, cand := some .data, patRows := rows, target := some n } := by
  have commute : ∀ r, (s.setRch r).resetClaim n = (s.resetClaim n).setRch r := fun _ => rfl
  simp [State.recognised, hr, ht, hd, he, commute]

/-- The sixth row completes the pattern. -/
theorem takeBytes_sixth {b : Byte} {rows : List Row} (hp : s.rch.phase = .pattern)
    (hs : s.rch.silentRows = []) (hl : s.rch.patRows.length = 5)
    (hr : s.rch.patRows ++ [rowOf b] = rows) :
    takeBytes weak [b] s = (s.setRch { s.rch with patRows := rows }).recognised := by
  calc takeBytes weak [b] s
      = (s.takeRow (strictRow weak (rowOf b)) (rowOf b)).1 := rfl
    _ = s.burstRow (strictRow weak (rowOf b), rowOf b) := by
        rw [State.takeRow_active _ (rowOf_ne_silentRow b) (by simp [hp]) hs]
    _ = _ := by rw [State.burstRow_sixth _ hp hl, hr]

theorem recognise_dataPattern : recognise (dataPattern.map rowOf) = some .data := by decide

/-- The preamble of a written block begins the burst and has its body assembled into the slot held. -/
theorem takeBytes_preamble (hd : s.xp.dir = .forward) (hp : s.rch.phase = .silent)
    (hw : s.seq.work = .read n) :
    takeBytes weak dataPattern s = (s.resetClaim n).setRch { s.rch.quiet with
      phase := .body, cand := some .data, patRows := dataPattern.map rowOf
      silence := s.xp.timing.readSilence, eligible := true, target := some n } := by
  have target : s.readTarget = some n := by simp [State.readTarget, hw]
  have parts : dataPattern = [0xAA] ++ ([0xAA, 0xAA, 0xAA, 0x55] ++ [0xE7]) := rfl
  have first : takeBytes weak [0xAA] s = s.setRch { s.rch.quiet with
      phase := .pattern, patRows := [rowOf 0xAA], silence := s.xp.timing.readSilence
      eligible := true } := by
    have row := State.takeRow_first (strictRow weak (rowOf 0xAA)) (rowOf_ne_silentRow 0xAA) hp
    simp only [takeBytes, List.map_cons, List.map_nil, List.foldl_cons, List.foldl_nil, row, target]
    rfl
  have five := takeBytes_pattern (weak := weak) (l := [0xAA, 0xAA, 0xAA, 0x55])
    (s := s.setRch { s.rch.quiet with
      phase := .pattern, patRows := [rowOf 0xAA], silence := s.xp.timing.readSilence
      eligible := true }) rfl rfl (by simp)
  conv_lhs => rw [parts, takeBytes_append, first, takeBytes_append, five]
  rw [takeBytes_sixth (rows := dataPattern.map rowOf) (by rfl) (by rfl) (by simp) (by simp [dataPattern])]
  exact recognised_data (s := s.setRch _) recognise_dataPattern target hd rfl

/-- The preamble leaves a body of which nothing has been committed. -/
theorem taking_preamble (hd : s.xp.dir = .forward) (hp : s.rch.phase = .silent)
    (hs : s.rch.straddle = none) (hw : s.seq.work = .read n) (ha : (s.slot n).state = .active)
    (hm : s.pool.data.wf = true) : Taking s n weak [] [] (takeBytes weak dataPattern s) := by
  rw [takeBytes_preamble hd hp hw]
  have claimed : (s.resetClaim n).pool.get n = .claimed := by
    refine (Pool.get_put _ _ _ _).trans ((if_pos rfl).trans ?_)
    rw [show (s.pool.get n).state = .active from ha]
    rfl
  exact
    { phase := rfl, cand := rfl, silentRows := rfl, target := rfl, straddle := hs, tagMem := rfl
      dir := hd, seq := rfl, pos := rfl, header := rfl, headerError := rfl
      fallback := by cases weak <;> rfl
      errors := rfl, lrc := rfl, crc := rfl, committed := rfl, overlength := rfl
      capture := capturedFirst_nil _ _ _
      wf := hm
      bytes := List.eq_nil_of_length_eq_zero (by
        rw [Pool.length_bytes]
        exact congrArg SlotRecord.length claimed)
      window := rfl, rows := rfl, kept := by simp, full := by simp }


/-! ## The end of a written block (R121 to R124, R130, R132) -/

/-- The check-group frames at the end of the window are counted and change nothing else. -/
theorem foldl_commitCheck (ht : weak = true → s.rch.asm.captureTaken = true) (l : List Byte) :
    (l.map (winRow weak)).foldl (fun s w => s.commitCheck w) s =
      s.setAsm ((l.map (winRow weak)).foldl Assembly.count s.rch.asm) := by
  induction l generalizing s with
  | nil => rfl
  | cons b l ih =>
    have frame : s.captureFrame (winRow weak b) = s := by
      unfold State.captureFrame
      split
      · rfl
      · refine if_pos ?_
        cases weak
        · exact .inl rfl
        · exact .inr (.inl (ht rfl))
    have row : s.commitCheck (winRow weak b) = s.setAsm (s.rch.asm.count (winRow weak b)) := by
      rw [State.commitCheck, frame]
    simp only [List.map_cons, List.foldl_cons, row]
    exact ih (s := s.setAsm _) ht

/-- What counting frames of one finding does to the assembly record. -/
theorem foldl_count (weak : Bool) (l : List Byte) (a : Assembly) :
    let a' := (l.map (winRow weak)).foldl Assembly.count a
    a'.committed = a.committed + l.length ∧
      a'.fallback = a.fallback + (if weak then l.length else 0) ∧ a'.errors = a.errors ∧
      a'.header = a.header ∧ a'.headerError = a.headerError ∧ a'.lrc = a.lrc ∧ a'.crc = a.crc ∧
      a'.overlength = a.overlength ∧ a'.captureTaken = a.captureTaken := by
  induction l generalizing a with
  | nil => simp
  | cons b l ih =>
    obtain ⟨committed, fallback, errors, rest⟩ := ih (a.count (winRow weak b))
    refine ⟨committed.trans ?_, fallback.trans ?_, errors.trans ?_, rest⟩
    · simp only [Assembly.count, List.length_cons]
      omega
    · cases weak <;> simp [Assembly.count, winRow]
      omega
    · cases weak <;> simp [Assembly.count, winRow]

/-- The judgment of a whole body whose checks hold. -/
theorem judge_whole {a : Assembly} {h : Header} {bytes : List Byte} (hh : a.header = h.bytes)
    (he : a.headerError = false) (hc : a.committed = bytes.length + 7) (ho : a.overlength = false)
    (hlrc : a.lrc = lrcOf (h.bytes ++ bytes)) (hcrc : a.crc = crcOf (h.bytes ++ bytes))
    (hk : h.kind = .data) (hb : 1 ≤ bytes.length ∧ bytes.length ≤ 1024) (hl : h.length ≤ 1024) :
    judge a (checkGroup (h.bytes ++ bytes)) = h.whole bytes.length := by
  have header : Header.ofList a.header = some h := by rw [hh, Header.ofList_bytes h (by omega)]
  have long : ¬ a.committed < Config.confirmRows := by
    show ¬ _ < 7
    omega
  have length : (h.length < 1 ∨ Config.slotBytes < h.length ∨
      h.length ≠ a.committed - Config.confirmRows) ↔ h.length ≠ bytes.length := by
    show (h.length < 1 ∨ 1024 < h.length ∨ h.length ≠ a.committed - 7) ↔ _
    omega
  have notMark : (h.kind == .mark) = false := by rw [hk]; rfl
  simp [judge, Header.whole, header, he, notMark, long, ho, checkGroup, hlrc, hcrc]
  rw [Bool.eq_iff_iff]
  simpa using length

/-- The classification changes nothing but the capture record. -/
theorem captureClass_eq (n : SlotNo) (c : ReadClass) (l : List WinRow) (s : State) :
    s.captureClass n c l = s.setCapture (s.captureClass n c l).capture := by
  unfold State.captureClass
  dsimp only
  repeat' split
  all_goals rfl

/-- A detected forward DATA block, once it has been judged: the channel is SILENT, and the tracker and the
blank timer have taken the detection (R126, R128). -/
def blockPassed (s : State) : State :=
  ((s.setRch { s.rch.quiet with straddle := none }).onPos
    (Position.detected .forward .data)).startBlank

@[simp] theorem blockPassed_pool (s : State) : s.blockPassed.pool = s.pool := by
  simp [blockPassed, State.onPos]
@[simp] theorem blockPassed_capture (s : State) : s.blockPassed.capture = s.capture := by
  simp [blockPassed, State.onPos]
@[simp] theorem blockPassed_pos (s : State) :
    s.blockPassed.pos = Position.forwardReport false .data s.pos := by
  simp [blockPassed, State.onPos, Position.detected]
@[simp] theorem blockPassed_rch (s : State) :
    s.blockPassed.rch = { s.rch.quiet with straddle := none } := by
  simp [blockPassed, State.onPos]

/-- A whole DATA burst that ends by silence in forward motion is judged from its rows. -/
theorem endBurst_data (hd : s.xp.dir = .forward) (hs : s.rch.straddle = none)
    (hc : s.rch.confirmedKind = some .data) :
    s.endBurst .silence = (s.judgeData.1.blockPassed, some s.judgeData.2) := by
  simp [State.endBurst, State.judgeBurst, ReadChannel.remainder, hd, hs, hc, blockPassed]

/-- The end of a whole body's window: its oldest three rows are the check group. -/
theorem Taking.settleWindow {check post : List Byte} (h : Taking s₀ n weak bs (check ++ post) s)
    (hb : 5 ≤ bs.length) (hc : check.length = 3) (hp : post.length = 6) :
    s.settleWindow = (s.setAsm ((check.map (winRow weak)).foldl Assembly.count s.rch.asm),
      check.map (winRow weak)) := by
  have taken : weak = true → s.rch.asm.captureTaken = true := by
    intro hw
    have hne : bs ≠ [] := by rintro rfl; simp at hb
    have captured := h.capture
    rw [CapturedFirst, if_pos ⟨hw, hne⟩] at captured
    exact captured.1
  have rows : s.rch.window.take (s.rch.window.length - Config.patternFrames) =
      check.map (winRow weak) := by
    simp [h.window, Config.patternFrames, hc, hp]
  have confirmed : Config.confirmRows ≤ s.rch.rowsAfter - Config.patternFrames := by
    simp only [h.rows, List.length_append, hc, hp, Config.confirmRows, Config.patternFrames]
    omega
  simp only [State.settleWindow, rows, confirmed, h.overlength, and_self, if_true,
    foldl_commitCheck taken]

/-- What a block written with the header `h` and the data `data` leaves in `t`, read back from `s` into
slot `n` with class `c`. -/
structure ReadBack (s : State) (n : SlotNo) (weak : Bool) (h : Header) (data : List Byte)
    (c : ReadClass) (t : State) : Prop where
  bytes : t.pool.bytes n = data
  length : (t.slot n).length = data.length
  tag : (t.slot n).tag = some h.tag
  cls : (t.slot n).read.cls = some c
  finding : (t.slot n).read.finding = tagTest s.rch.tagMem (some h)
  fallback : (t.slot n).read.fallback = if weak then data.length + 7 else 0
  errors : (t.slot n).read.errors = 0
  mismatch : (t.slot n).read.lengthMismatch = decide (h.length ≠ data.length)
  lrcFail : (t.slot n).read.lrcFail = false
  crcFail : (t.slot n).read.crcFail = false
  tagMem : t.rch.tagMem = some h.tag
  phase : t.rch.phase = .silent
  pos : t.pos = Position.forwardReport false .data s.pos
  captureKept : weak = false → c = .clean → t.capture = s.capture
  captureFilled : weak = true → ∃ y, t.capture = some
    { kind := .read, slot := some n, index := 6, expected := none, strict := silentRow
      lenient := y, cls := c.captured }

/-- The class of a block read back from rows of one finding (R123). -/
def readBackClass (weak : Bool) (h : Header) (bytes : List Byte) : ReadClass :=
  if h.length ≠ bytes.length then .damaged else if weak then .marginal else .clean

/-- The capture record once a block whose checks hold is classified (R132). -/
theorem captureClass_capture {c₀ : Option Capture} {c : ReadClass} {l : List WinRow}
    (hc : CapturedFirst c₀ n weak bs s.capture s.rch.asm.captureTaken) (hne : bs ≠ [])
    (hf : weak = true → s.seq.state ≠ .frozen) :
    (weak = false → c = .clean → (s.captureClass n c l).capture = c₀) ∧
    (weak = true → ∃ y, (s.captureClass n c l).capture = some
      { kind := .read, slot := some n, index := 6, expected := none, strict := silentRow
        lenient := y, cls := c.captured }) := by
  refine ⟨fun hw hclean => ?_, fun hw => ?_⟩
  · obtain ⟨taken, kept⟩ : s.rch.asm.captureTaken = false ∧ s.capture = c₀ := by
      simpa [CapturedFirst, hw] using hc
    simp [State.captureClass, taken, hclean, kept]
  · obtain ⟨taken, y, filled⟩ : s.rch.asm.captureTaken = true ∧ _ := by
      simpa [CapturedFirst, hw, hne] using hc
    exact ⟨y, by simp [State.captureClass, taken, filled, hf hw]⟩

/-- The state once a DATA block assembled into slot `n` is judged and before it is classified: the tag
memory and the slot have taken the judgment (R122, R130). -/
def judged (s : State) (n : SlotNo) (a : Assembly) (j : Judgment) : State :=
  (s.setRch { s.rch with asm := a, tagMem := tagAfterData s.rch.tagMem j.header }).editSlot n
    (fun r => { r with tag := j.header.map (·.tag), read := readStatus a j s.rch.tagMem })

/-- A DATA block with a target is judged and classified. -/
theorem judgeData_stored {a : Assembly} {j : Judgment} {rows : List WinRow}
    (hs : s.settleWindow = (s.setAsm a, rows)) (ht : s.rch.target = some n)
    (hj : judge a (rows.map (fun w => rowByte w.frame)) = j) :
    s.judgeData = ((s.judged n a j).captureClass n (classify a j) rows,
      { kind := .data, dir := .forward, stored := some (n, classify a j), givenBack := none }) := by
  simp [State.judgeData, hs, State.setAsm, hj, ht, State.judged]

/-- The slot of a judged block. -/
theorem judged_slot (s : State) (n : SlotNo) (a : Assembly) (j : Judgment) :
    (s.judged n a j).slot n = { s.slot n with
      tag := j.header.map (·.tag), read := readStatus a j s.rch.tagMem } :=
  Pool.get_edit _ _ _

/-- The judgment leaves the bytes of the slot. -/
theorem judged_bytes (s : State) (n : SlotNo) (a : Assembly) (j : Judgment) :
    (s.judged n a j).pool.bytes n = s.pool.bytes n :=
  Pool.bytes_put rfl

/-- The class of a body whose checks hold. -/
theorem classify_whole {a : Assembly} {h : Header} {bytes : List Byte} (he : a.errors = 0)
    (ho : a.overlength = false) (hf : a.fallback = if weak then bytes.length + 7 else 0) :
    classify a (h.whole bytes.length) = readBackClass weak h bytes := by
  cases weak <;> simp [classify, Header.whole, readBackClass, he, ho, hf]

/-- The end of a block whose rows have been taken whole. -/
theorem Taking.endBurst {h : Header} {bytes post : List Byte}
    (ht : Taking s₀ n weak (h.bytes ++ bytes) (checkGroup (h.bytes ++ bytes) ++ post) s)
    (hp : post.length = 6) (hk : h.kind = .data) (hb : 1 ≤ bytes.length ∧ bytes.length ≤ 1024)
    (hl : h.length ≤ 1024) (hf : weak = true → s₀.seq.state ≠ .frozen) :
    ∃ t, s.endBurst .silence = (t, some { kind := .data, dir := .forward
                                          stored := some (n, readBackClass weak h bytes)
                                          givenBack := none }) ∧
      ReadBack s₀ n weak h bytes (readBackClass weak h bytes) t := by
  have four : h.bytes.length = 4 := rfl
  have settled := ht.settleWindow (by simp [four]; omega) rfl hp
  obtain ⟨committed, fallback, errors, header, headerError, lrc, crc, overlength, taken⟩ :=
    foldl_count weak (checkGroup (h.bytes ++ bytes)) s.rch.asm
  generalize ((checkGroup (h.bytes ++ bytes)).map (winRow weak)).foldl Assembly.count s.rch.asm = a
    at *
  have fallback' : a.fallback = if weak then bytes.length + 7 else 0 := by
    rw [fallback, ht.fallback]
    cases weak <;> simp [four, checkGroup]
    omega
  have judged := judge_whole (a := a) (header.trans (by simp [ht.header, four]))
    (headerError.trans ht.headerError)
    (by rw [committed, ht.committed]; simp [four, checkGroup]; omega)
    (overlength.trans ht.overlength) (lrc.trans ht.lrc) (crc.trans ht.crc) hk hb hl
  have stored := judgeData_stored settled ht.target (j := _)
    ((congrArg (judge a) (by simp [Function.comp_def])).trans judged)
  have classified := classify_whole (weak := weak) (h := h) (errors.trans ht.errors)
    (overlength.trans ht.overlength) fallback'
  rw [classified] at stored
  have confirmed : s.rch.confirmedKind = some .data := by
    simp [ReadChannel.confirmedKind, ReadChannel.confirmed, ht.phase, ht.cand, ht.rows, four, hp,
      Config.confirmRows]
    omega
  rw [endBurst_data ht.dir ht.straddle confirmed, stored]
  have captured : CapturedFirst s₀.capture n weak (h.bytes ++ bytes)
      (s.judged n a (h.whole bytes.length)).capture
      (s.judged n a (h.whole bytes.length)).rch.asm.captureTaken := taken ▸ ht.capture
  obtain ⟨kept, filled⟩ := captureClass_capture (c := readBackClass weak h bytes)
    (l := (checkGroup (h.bytes ++ bytes)).map (winRow weak)) captured (by simp [Header.bytes])
    (ht.seq ▸ hf)
  have slot := judged_slot s n a (h.whole bytes.length)
  have data : (s.judged n a (h.whole bytes.length)).pool.bytes n = bytes := by
    rw [judged_bytes, ht.bytes, List.drop_append_of_le_length (by simp [four])]
    simp [Header.bytes]
  rw [captureClass_eq]
  generalize (captureClass n _ _ _).capture = c at kept filled
  have length : ((s.judged n a (h.whole bytes.length)).slot n).length = bytes.length := by
    conv_rhs => rw [← data, Pool.length_bytes]
    rfl
  rw [ht.tagMem] at slot
  have read : ((s.judged n a (h.whole bytes.length)).slot n).read =
      readStatus a (h.whole bytes.length) s₀.rch.tagMem := by rw [slot]
  refine ⟨_, rfl, ?_⟩
  have same : (((s.judged n a (h.whole bytes.length)).setCapture c).blockPassed.slot n) =
      (s.judged n a (h.whole bytes.length)).slot n := by
    simp [State.slot]
  constructor
  case bytes => simpa using data
  case length => rw [same, length]
  case tag => rw [same, slot]; rfl
  case cls => rw [same, read]; exact congrArg some classified
  case finding => rw [same, read]; rfl
  case fallback => rw [same, read]; exact fallback'
  case errors => rw [same, read]; exact errors.trans ht.errors
  case mismatch => rw [same, read]; rfl
  case lrcFail => rw [same, read]; rfl
  case crcFail => rw [same, read]; rfl
  case tagMem => simp [ReadChannel.quiet, State.judged, State.editSlot, Header.whole, tagAfterData]
  case phase => simp [ReadChannel.quiet]
  case pos => simp [State.judged, State.editSlot, ht.pos]
  case captureKept => simpa using kept
  case captureFilled => simpa using filled

/-- A block as it is written, taken from its first row to its last, is read back. -/
theorem endBurst_blockFrames {h : Header} {bytes : List Byte} (hd : s.xp.dir = .forward)
    (hp : s.rch.phase = .silent) (hs : s.rch.straddle = none) (hw : s.seq.work = .read n)
    (ha : (s.slot n).state = .active) (hm : s.pool.data.wf = true) (hk : h.kind = .data)
    (hb : 1 ≤ bytes.length ∧ bytes.length ≤ 1024) (hl : h.length ≤ 1024)
    (hf : weak = true → s.seq.state ≠ .frozen) :
    ∃ t, ((blockFrames h bytes).foldl (fun s row => (s.takeRow (strictRow weak row) row).1) s).endBurst
        .silence = (t, some { kind := .data, dir := .forward
                              stored := some (n, readBackClass weak h bytes), givenBack := none }) ∧
      ReadBack s n weak h bytes (readBackClass weak h bytes) t := by
  have frames : blockBytes h bytes = dataPattern ++ ((h.bytes ++ bytes) ++
      (checkGroup (h.bytes ++ bytes) ++ dataPattern.reverse)) := by
    simp [blockBytes, hk, patternOf]
  have start := taking_preamble (weak := weak) hd hp hs hw ha hm
  obtain ⟨bs, win, body, taken⟩ := start.takeBytes hf
    ((h.bytes ++ bytes) ++ (checkGroup (h.bytes ++ bytes) ++ dataPattern.reverse))
    (by simp [Header.bytes, checkGroup, dataPattern]; omega)
  have nine : win.length = 9 := by
    refine taken.full fun hbs => ?_
    have len := congrArg List.length body
    have kept := taken.kept
    simp [hbs, Header.bytes, checkGroup, dataPattern] at len
    omega
  rw [List.nil_append, List.nil_append] at body
  obtain ⟨rfl, rfl⟩ := List.append_inj' body (nine.trans (by simp [checkGroup, dataPattern]))
  have ended := taken.endBurst (by simp [dataPattern]) hk hb hl hf
  rw [← takeBytes_append, ← frames] at ended
  exact ended

end State

/-- Settles O45: `endBurst_blockFrames` for sound rows, for fallback rows, and for a header of another
length. -/
theorem writtenBlockReadsBackClean : Obligations.WrittenBlockReadsBackClean := by
  intro s n h bytes hd hp hs hw ha hm hk hb1 hb2
  refine ⟨fun hl => ?clean, fun hl hf => ?marginal, fun hl hl2 => ?damaged⟩
  case clean =>
    obtain ⟨t, ended, r⟩ := State.endBurst_blockFrames (weak := false) hd hp hs hw ha hm hk
      ⟨hb1, hb2⟩ (by omega) nofun
    have cls : State.readBackClass false h bytes = .clean := by simp [State.readBackClass, hl]
    rw [cls] at ended r
    exact ⟨t, ended, r.bytes, r.length, r.tag, r.cls, r.tagMem, r.phase, r.pos,
      r.captureKept rfl rfl, fun hmem => by rw [r.finding, hmem]; rfl,
      fun m hmem => by rw [r.finding, hmem]; simp only [tagTest, eq_comm]⟩
  case marginal =>
    obtain ⟨t, ended, r⟩ := State.endBurst_blockFrames (weak := true) hd hp hs hw ha hm hk
      ⟨hb1, hb2⟩ (by omega) (fun _ => hf)
    have cls : State.readBackClass true h bytes = .marginal := by simp [State.readBackClass, hl]
    rw [cls] at ended r
    obtain ⟨y, filled⟩ := r.captureFilled rfl
    exact ⟨t, _, ended, r.bytes, r.tag, r.cls, r.fallback, r.errors, filled, rfl, rfl, rfl, rfl, rfl,
      rfl⟩
  case damaged =>
    obtain ⟨t, ended, r⟩ := State.endBurst_blockFrames (weak := false) hd hp hs hw ha hm hk
      ⟨hb1, hb2⟩ hl2 nofun
    have cls : State.readBackClass false h bytes = .damaged := by simp [State.readBackClass, hl]
    rw [cls] at ended r
    exact ⟨t, ended, r.bytes, r.tag, r.cls, by rw [r.mismatch]; exact decide_eq_true hl, r.lrcFail,
      r.crcFail⟩

end Sys2Proof.Machine
end

section
/-! SUPPORT. The silent row that ends a burst, and what the running unit, its entry and the list make of
what was detected (R12, R14, R50 to R66, R126 to R131). -/

namespace Sys2Proof.Machine

namespace State

/-! ## What the end of a burst leaves as it was -/

/-- The state without what the end of a burst can change: the pool, the read channel, the capture record,
the position and the blank timer. -/
def unread (s : State) : State :=
  { s with pool := .reset, rch := .reset 0, capture := none, pos := .reset
           xp := { s.xp with blankTimer := none } }

@[simp] theorem unread_setPool (p : Pool) (s : State) : (s.setPool p).unread = s.unread := rfl
@[simp] theorem unread_setRch (r : ReadChannel) (s : State) : (s.setRch r).unread = s.unread := rfl
@[simp] theorem unread_setAsm (a : Assembly) (s : State) : (s.setAsm a).unread = s.unread := rfl
@[simp] theorem unread_setCapture (c : Option Capture) (s : State) :
    (s.setCapture c).unread = s.unread := rfl
@[simp] theorem unread_onPos (f : Position → Position) (s : State) :
    (s.onPos f).unread = s.unread := rfl
@[simp] theorem unread_editSlot (n : SlotNo) (f : SlotRecord → SlotRecord) (s : State) :
    (s.editSlot n f).unread = s.unread := rfl
@[simp] theorem unread_resetClaim (n : SlotNo) (s : State) :
    (s.resetClaim n).unread = s.unread := rfl
@[simp] theorem unread_forgetTags (s : State) : s.forgetTags.unread = s.unread := rfl
@[simp] theorem unread_startBlank (s : State) : s.startBlank.unread = s.unread := by
  unfold State.startBlank; split <;> rfl

@[simp] theorem unread_captureFrame (w : WinRow) (s : State) :
    (s.captureFrame w).unread = s.unread := by
  unfold State.captureFrame
  split
  · rfl
  · split <;> rfl

@[simp] theorem unread_commitFrame (w : WinRow) (s : State) :
    (s.commitFrame w).unread = s.unread := by
  unfold State.commitFrame
  dsimp only
  split
  · simp
  · split <;> simp

@[simp] theorem unread_commitCheck (w : WinRow) (s : State) :
    (s.commitCheck w).unread = s.unread := by
  simp [State.commitCheck]

/-- What every one of a list of changes leaves, all of them leave. -/
theorem unread_foldl {α : Type} {f : State → α → State} (hf : ∀ s a, (f s a).unread = s.unread)
    (l : List α) (s : State) : (l.foldl f s).unread = s.unread := by
  induction l generalizing s with
  | nil => rfl
  | cons a l ih => exact (ih _).trans (hf s a)

@[simp] theorem unread_settleWindow (s : State) : s.settleWindow.1.unread = s.unread := by
  unfold State.settleWindow
  dsimp only
  split
  · exact unread_foldl (fun s w => s.unread_commitCheck w) _ _
  · exact unread_foldl (fun s w => s.unread_commitFrame w) _ _

@[simp] theorem unread_captureClass (n : SlotNo) (c : ReadClass) (l : List WinRow) (s : State) :
    (s.captureClass n c l).unread = s.unread := by
  rw [captureClass_eq, unread_setCapture]

@[simp] theorem unread_judgeData (s : State) : s.judgeData.1.unread = s.unread := by
  unfold State.judgeData
  dsimp only
  split <;> simp

@[simp] theorem unread_judgeMark (s : State) : s.judgeMark.1.unread = s.unread := by
  simp [State.judgeMark]

@[simp] theorem unread_detectBare (how : BurstEnd) (k : BlockKind) (d : Dir) (s : State) :
    (s.detectBare how k d).1.unread = s.unread := by
  unfold State.detectBare
  dsimp only
  repeat' split
  all_goals simp

@[simp] theorem unread_judgeBurst (how : BurstEnd) (k : BlockKind) (d : Dir) (s : State) :
    (s.judgeBurst how k d).1.unread = s.unread := by
  unfold State.judgeBurst
  split
  · cases k <;> simp
  · simp

@[simp] theorem unread_endNoise (s : State) : s.endNoise.unread = s.unread := by
  unfold State.endNoise
  dsimp only
  split <;> simp

@[simp] theorem unread_endBurst (how : BurstEnd) (s : State) :
    (s.endBurst how).1.unread = s.unread := by
  unfold State.endBurst
  dsimp only
  split
  · simp
  · split <;> simp

/-- No burst is in progress once one has ended. -/
theorem endBurst_phase (how : BurstEnd) (s : State) :
    (s.endBurst how).1.rch.phase = .silent := by
  unfold State.endBurst
  dsimp only
  split
  · simp [State.endNoise, ReadChannel.quiet]
  · split <;> simp [State.onPos, ReadChannel.quiet]

/-! ## The row that ends a burst -/

/-- The tape is RUNNING with the write channel IDLE, the list runs with no STOP taken, and the result
queue has room. -/
structure Runs (s : State) : Prop where
  motion : s.xp.motion = .running
  phase : s.wch.phase = .idle
  state : s.seq.state = .running
  stopInd : s.seq.stopInd = false
  room : s.host.results.length < 16

/-- From `s`, the running tape's burst has ended in `u`. -/
structure BurstDone (s u : State) : Prop where
  runs : u.Runs
  pending : u.pending = s.pending
  host : u.host = s.host
  seq : u.seq = s.seq
  stream : u.stream = s.stream
  dir : u.xp.dir = s.xp.dir
  levels : u.xp.levels = s.xp.levels

theorem burstDone_of_endBurst {s u : State} {f : Option Found} (hs : s.Runs)
    (he : s.endBurst .silence = (u, f)) : s.BurstDone u := by
  have same : u.unread = s.unread := by
    have := s.unread_endBurst .silence
    rwa [he] at this
  have part : ∀ {α : Type} (part : State → α), part u.unread = part s.unread :=
    fun part => congrArg part same
  have host : u.host = s.host := part State.host
  have seq : u.seq = s.seq := part State.seq
  exact
    { runs :=
        { motion := (part (·.xp.motion)).trans hs.motion
          phase := (part (·.wch.phase)).trans hs.phase
          state := by rw [seq]; exact hs.state
          stopInd := by rw [seq]; exact hs.stopInd
          room := by rw [host]; exact hs.room }
      pending := part State.pending
      host, seq
      stream := part State.stream
      dir := part (·.xp.dir)
      levels := part (·.xp.levels) }

/-- The silent row that completes a silent run of READ_SILENCE ends the burst, and what it detected is
handed on in the same event (R12, R126). -/
theorem exec_endingRow {s u : State} {f : Option Found} (x : Row) (hs : s.Runs)
    (hp : s.rch.phase ≠ .silent) (hl : s.rch.silence.toNat ≤ s.rch.silentRows.length + 1)
    (he : s.endBurst .silence = (u, f)) :
    exec (.readHeadRow x silentRow) s = .next (u.burstOver f) := by
  have silent : u.rch.phase = .silent := by
    have := s.endBurst_phase .silence
    rwa [he] at this
  have ended : s.takeRow x silentRow = (u, f) := by
    simp [State.takeRow, State.inBurst, hp, Nat.not_lt.mpr hl, he]
  rw [exec_readHeadRow_idle x _ (by simp [hs.motion]) hs.phase]
  simp [State.readRow, ended, State.inBurst, hp, silent]

/-- A detection is handed to the unit that runs. -/
theorem burstOver_some {u : State} {f : Found} (hu : u.Runs) :
    u.burstOver (some f) = carryOut (u.handUnit f) := by
  simp [State.burstOver, State.handOn, hu.state, SeqState.unitRuns]

/-- Noise leaves a unit running (R14). -/
theorem burstOver_none {u : State} (hu : u.Runs) : u.burstOver none = u := by
  simp [State.burstOver, State.giveUpPass, hu.state, carryOut]

/-! ## The end of an entry (R64 to R66) -/

/-- The current entry is closed: its unit and its episode are over, and its result is posted. -/
def entryClosed (o : EntryOutcome) (s : State) : State :=
  ((s.setEpisode none).setWork .none).joinResult (s.buildResult o)

/-- With room in the result queue an entry that ends posts its result, and the list goes on. -/
theorem settleEntry_room {s : State} (o : EntryOutcome) (h : s.host.results.length < 16) :
    s.settleEntry o = (s.entryClosed o).goOn o := by
  have room : ((s.setEpisode none).setWork .none).resultRoom = true := by
    simpa [State.resultRoom, State.setWork, State.setEpisode, Config.resultRoom] using h
  simp [State.settleEntry, room, State.entryClosed]

/-- The list ends COMPLETED after a short outcome with HALT_ON_SHORT, and after the last entry in SINGLE
mode (R64, steps 4, 5 and 8). -/
theorem goOn_completed {s : State} {o : EntryOutcome} (ht : o.terminal = false) (ho : o ≠ .stopped)
    (hi : s.seq.stopInd = false)
    (hl : (o.short = true ∧ s.entry.haltOnShort = true) ∨ s.lastEntry) :
    s.goOn o = (s.listEnd .completed, false) := by
  rcases hl with ⟨hs, hh⟩ | ⟨hl, hc⟩
  · simp [State.goOn, ht, ho, hs, hh]
  · simp [State.goOn, ht, ho, hi, hl, hc]

/-- The list goes on to the entry that follows (R64, steps 7 and 9). -/
theorem goOn_next {s : State} {o : EntryOutcome} (ht : o.terminal = false) (ho : o ≠ .stopped)
    (hi : s.seq.stopInd = false) (hh : (o.short && s.entry.haltOnShort) = false)
    (hf : s.entryFollows) :
    s.goOn o = (s.setSeq { s.seq with
      cur := s.nextIndex
      cycle := if s.seq.cur.val + 1 < s.seq.ctl.mainLength then s.seq.cycle
        else s.seq.cycle + 1 }, true) := by
  by_cases hn : s.seq.cur.val + 1 < s.seq.ctl.mainLength
  · have notLast : ¬ s.seq.ctl.mainLength ≤ s.seq.cur.val + 1 := by omega
    simp [State.goOn, ht, ho, hi, hh, hn, notLast, State.nextIndex]
  · have last : s.seq.ctl.mainLength ≤ s.seq.cur.val + 1 := by omega
    have cycle : s.seq.ctl.cycle = true := hf.resolve_left hn
    simp [State.goOn, ht, ho, hi, hh, hn, last, cycle, State.nextIndex]

/-- A work of none leaves no blank timer. -/
theorem setWork_none (s : State) :
    s.setWork .none = (s.setSeq { s.seq with work := .none }).stopBlank := by
  simp [State.setWork, State.startBlank, State.blankWatched]

theorem enterMotion_xp (m : Motion) (d : Dir) (fast : Bool) (s : State) :
    (s.enterMotion m d fast).xp = { s.xp with
      motion := m, dir := d, fast := fast, keptIdle := false, rampTimer := none, lingerTimer := none
      rewindTimer := none, blankTimer := none } := by
  unfold State.enterMotion; split <;> rfl

/-- A stop taken by a RUNNING tape outside BLOCK. -/
theorem requestStop_motion {s : State} (hm : s.xp.motion = .running) (hp : s.wch.phase = .idle) :
    s.requestStop.xp.motion = .stopping := by
  simp [State.requestStop, hp, State.takeStop, hm, State.hold, State.stopMotion, enterMotion_xp]

/-- Raising an event flag sets it and leaves the others. -/
theorem event_raise (s : State) (e e' : Event) :
    (s.raise e).event e' = (s.event e' || decide (e = e')) := by
  have mask : ∀ e e' : Event, e.mask.getLsbD e'.bit = decide (e = e') := by
    intro e e'
    cases e <;> cases e' <;> rfl
  simp only [State.event, State.raise, State.setHost, BitVec.getLsbD_or, mask]

theorem event_eq_of_host {s t : State} (h : t.host.events = s.host.events) (e : Event) :
    t.event e = s.event e := by
  rw [State.event, State.event, h]

@[simp] theorem requestStop_event (s : State) (e : Event) : s.requestStop.event e = s.event e :=
  event_eq_of_host (by simp) e

/-- The current entry is read from list memory at the current index. -/
theorem entry_congr {s t : State} (hm : t.seq.listMem = s.seq.listMem) (hc : t.seq.cur = s.seq.cur) :
    t.entry = s.entry := by
  simp [State.entry, Sequencer.main, Sequencer.entryAt, hm, hc]

/-- A closed entry's result stands at the tail of the result queue. -/
theorem entryClosed_results (o : EntryOutcome) (s : State) :
    (s.entryClosed o).host.results = s.host.results ++ [s.buildResult o] := by
  simp [State.entryClosed, State.joinResult, State.raise, State.setWork, State.setEpisode]

theorem entryClosed_event (o : EntryOutcome) (s : State) (e : Event) :
    (s.entryClosed o).event e = (s.event e || decide (Event.resultPosted = e)) := by
  rw [State.entryClosed, State.joinResult, event_raise]
  congr 1
  exact event_eq_of_host (by simp [State.setWork, State.setEpisode]) e

@[simp] theorem entryClosed_seq (o : EntryOutcome) (s : State) :
    (s.entryClosed o).seq = { s.seq with episode := none, work := .none } := by
  simp [State.entryClosed, State.joinResult, State.raise, State.setWork, State.setEpisode]

@[simp] theorem entryClosed_xp (o : EntryOutcome) (s : State) :
    (s.entryClosed o).xp = { s.xp with blankTimer := none } := by
  simp [State.entryClosed, State.joinResult, State.raise, setWork_none, State.setEpisode,
    State.stopBlank]

@[simp] theorem entryClosed_pending (o : EntryOutcome) (s : State) :
    (s.entryClosed o).pending = s.pending := by
  simp [State.entryClosed, State.joinResult, State.raise, State.setWork, State.setEpisode]
@[simp] theorem entryClosed_pool (o : EntryOutcome) (s : State) :
    (s.entryClosed o).pool = s.pool := by
  simp [State.entryClosed, State.joinResult, State.raise, State.setWork, State.setEpisode]
@[simp] theorem entryClosed_wch (o : EntryOutcome) (s : State) :
    (s.entryClosed o).wch = s.wch := by
  simp [State.entryClosed, State.joinResult, State.raise, State.setWork, State.setEpisode]
@[simp] theorem entryClosed_rch (o : EntryOutcome) (s : State) :
    (s.entryClosed o).rch = s.rch := by
  simp [State.entryClosed, State.joinResult, State.raise, State.setWork, State.setEpisode]
@[simp] theorem entryClosed_capture (o : EntryOutcome) (s : State) :
    (s.entryClosed o).capture = s.capture := by
  simp [State.entryClosed, State.joinResult, State.raise, State.setWork, State.setEpisode]
@[simp] theorem entryClosed_pos (o : EntryOutcome) (s : State) :
    (s.entryClosed o).pos = s.pos := by
  simp [State.entryClosed, State.joinResult, State.raise, State.setWork, State.setEpisode]
@[simp] theorem entryClosed_stream (o : EntryOutcome) (s : State) :
    (s.entryClosed o).stream = s.stream := by
  simp [State.entryClosed, State.joinResult, State.raise, State.setWork, State.setEpisode]

/-- From `s`, a running tape's list has ended in `t`, which keeps what the list's end does not touch. -/
structure Ended (c : EndCause) (s t : State) : Prop where
  results : t.host.results = s.host.results
  event : ∀ e, t.event e = (s.event e || decide (Event.listEnded = e))
  seq : t.seq = { s.seq with state := .idle, episode := none, work := .none, endCause := c }
  motion : t.xp.motion = .stopping
  pending : t.pending = s.pending
  pool : t.pool = s.pool
  rch : t.rch = s.rch
  capture : t.capture = s.capture
  pos : t.pos = s.pos
  stream : t.stream = s.stream

/-- A list that ends while the tape runs stops it (R65). -/
theorem listEnd_ended {s : State} (c : EndCause) (hm : s.xp.motion = .running)
    (hp : s.wch.phase = .idle) : Ended c s (s.listEnd c) := by
  have eq : s.listEnd c = ((((s.setSeq { s.seq with
      state := .idle, episode := none, endCause := c, work := .none }).stopBlank).raise
        .listEnded)).requestStop := by
    simp [State.listEnd, setWork_none, Transport.ramping, State.raise, State.stopBlank, hm]
    rfl
  rw [eq]
  constructor
  case event =>
    intro e
    exact (requestStop_event _ e).trans (event_raise _ _ _)
  case motion => exact requestStop_motion hm hp
  all_goals simp [State.raise]

/-- An entry that ends the list on a running tape: its result is posted, and the list is COMPLETED. -/
theorem endEntry_completed {s : State} {o : EntryOutcome} (hs : s.Runs) (ht : o.terminal = false)
    (ho : o ≠ .stopped) (hl : (o.short = true ∧ s.entry.haltOnShort = true) ∨ s.lastEntry) :
    Ended .completed (s.entryClosed o) (s.endEntry o) := by
  have go : (s.entryClosed o).goOn o = ((s.entryClosed o).listEnd .completed, false) := by
    refine goOn_completed ht ho (by simp [hs.stopInd]) ?_
    rw [entry_congr (t := s.entryClosed o) (s := s) (by simp) (by simp)]
    simpa [State.lastEntry] using hl
  rw [State.endEntry, settleEntry_room o hs.room, go]
  exact listEnd_ended _ (by simp [hs.motion]) (by simp [hs.phase])

/-- From `s`, what ends the current entry has come in `v`: the list still runs, with the entry record
`g`. -/
structure Handed (s v : State) (g : EntryRecord) : Prop where
  runs : v.Runs
  seq : ∃ w, v.seq = { s.seq with work := w, record := g }
  results : v.host.results = s.host.results
  listEnded : v.event .listEnded = s.event .listEnded
  pending : v.pending = s.pending

/-- The entry is the one that was current. -/
theorem Handed.entry {s v : State} {g : EntryRecord} (h : s.Handed v g) : v.entry = s.entry := by
  obtain ⟨w, seq⟩ := h.seq
  exact entry_congr (by rw [seq]) (by rw [seq])

/-- An entry that ends the list: its result is posted, and the list is COMPLETED. -/
theorem Handed.completed {s v : State} {g : EntryRecord} {o : EntryOutcome} (h : s.Handed v g)
    (ht : o.terminal = false) (ho : o ≠ .stopped)
    (hl : (o.short = true ∧ s.entry.haltOnShort = true) ∨ s.lastEntry) :
    s.listEndedWith (v.endEntry o) (v.buildResult o) o .completed ∧ (v.buildResult o).record = g ∧
      Ended .completed (v.entryClosed o) (v.endEntry o) := by
  obtain ⟨w, seq⟩ := h.seq
  have e := endEntry_completed h.runs ht ho (by
    rw [h.entry]
    simpa [State.lastEntry, seq] using hl)
  refine ⟨⟨?_, rfl, ?_, ?_, ?_, ?_, ?_, ?_, ?_⟩, by simp [State.buildResult, seq], e⟩
  · rw [e.results, entryClosed_results, h.results]
  · simp [e.event, entryClosed_event]
  · simp [e.event]
  · simp [e.seq]
  · simp [e.seq]
  · simp [e.seq]
  · simp [e.seq, seq]
  · simp [e.pending, h.pending]

/-! ## Units that begin on a running tape (R50 to R52, R60, R153) -/

@[simp] theorem setWork_seq (w : Work) (s : State) :
    (s.setWork w).seq = { s.seq with work := w } := by
  simp [State.setWork]

@[simp] theorem setWork_pending (w : Work) (s : State) : (s.setWork w).pending = s.pending := by
  simp [State.setWork]
@[simp] theorem setWork_host (w : Work) (s : State) : (s.setWork w).host = s.host := by
  simp [State.setWork]
@[simp] theorem setWork_pool (w : Work) (s : State) : (s.setWork w).pool = s.pool := by
  simp [State.setWork]
@[simp] theorem setWork_wch (w : Work) (s : State) : (s.setWork w).wch = s.wch := by
  simp [State.setWork]
@[simp] theorem setWork_rch (w : Work) (s : State) : (s.setWork w).rch = s.rch := by
  simp [State.setWork]
@[simp] theorem setWork_capture (w : Work) (s : State) : (s.setWork w).capture = s.capture := by
  simp [State.setWork]
@[simp] theorem setWork_pos (w : Work) (s : State) : (s.setWork w).pos = s.pos := by
  simp [State.setWork]
@[simp] theorem setWork_stream (w : Work) (s : State) : (s.setWork w).stream = s.stream := by
  simp [State.setWork]
@[simp] theorem setWork_motion (w : Work) (s : State) :
    (s.setWork w).xp.motion = s.xp.motion := by
  unfold State.setWork State.startBlank; split <;> rfl
@[simp] theorem setWork_dir (w : Work) (s : State) :
    (s.setWork w).xp.dir = s.xp.dir := by
  unfold State.setWork State.startBlank; split <;> rfl
@[simp] theorem setWork_levels (w : Work) (s : State) :
    (s.setWork w).xp.levels = s.xp.levels := by
  unfold State.setWork State.startBlank; split <;> rfl

@[simp] theorem setWork_entry (w : Work) (s : State) : (s.setWork w).entry = s.entry :=
  entry_congr (by simp) (by simp)

/-- A request in the direction in which the tape runs, with no marker in the way, is taken. -/
theorem requestDir_running {s : State} {d : Dir} (hm : s.xp.motion = .running) (hd : s.xp.dir = d)
    (hf : d = .forward → s.xp.levels.eom = false) (hr : d = .reverse → s.xp.levels.bom = false) :
    s.requestDir d = (s.setXp { s.xp with lingerTimer := none }, .taken) := by
  cases d
  · simp [State.requestDir, hf rfl, State.takeDir, hm, hd]
  · simp [State.requestDir, hr rfl, State.takeDir, hm, hd]

/-- From `s`, the unit whose work is `w` has begun in `t` on a tape that ran already, with the pool `p`. -/
structure Begun (s : State) (w : Work) (p : Pool) (t : State) : Prop where
  seq : t.seq = { s.seq with state := .running, work := w }
  motion : t.xp.motion = .running
  dir : t.xp.dir = s.xp.dir
  host : t.host = s.host
  pool : t.pool = p
  pos : t.pos = s.pos
  tagMem : t.rch.tagMem = s.rch.tagMem
  stream : t.stream = s.stream
  capture : t.capture = s.capture
  pending : t.pending = s.pending

/-- The work and the direction of the entries that pass blocks or marks (R51, R52). -/
def PassCode (code : Byte) (w : Work) (d : Dir) : Prop :=
  (w = .space d ∧ code = if d = .forward then 0x04 else 0x05) ∨
    (w = .seek d ∧ code = if d = .forward then 0x06 else 0x07)

/-- The operation of an entry that passes blocks or marks. -/
theorem mainOp_of_passCode {e : ListEntry} {w : Work} {d : Dir} (h : PassCode e.opcode w d) :
    (w = .space .forward ∧ d = .forward ∧ e.mainOp = some .spaceFwd) ∨
      (w = .space .reverse ∧ d = .reverse ∧ e.mainOp = some .spaceRev) ∨
      (w = .seek .forward ∧ d = .forward ∧ e.mainOp = some .seekFwd) ∨
      (w = .seek .reverse ∧ d = .reverse ∧ e.mainOp = some .seekRev) := by
  rcases h with ⟨rfl, h⟩ | ⟨rfl, h⟩ <;> cases d <;>
    simp only [if_true, reduceCtorEq, if_false] at h <;> simp [ListEntry.mainOp, h] <;> decide

/-- The checks before a unit of an entry that passes blocks or marks (R60, R156). -/
theorem unitCheck_pass {s : State} {w : Work} {d : Dir} (hc : PassCode s.entry.opcode w d)
    (hf : d = .forward → s.xp.levels.eom = false) : s.unitCheck = none := by
  rcases mainOp_of_passCode hc with ⟨-, rfl, h⟩ | ⟨-, rfl, h⟩ | ⟨-, rfl, h⟩ | ⟨-, rfl, h⟩ <;>
    simp [State.unitCheck, ListEntry.writes, ListEntry.forward, h]
  · exact hf rfl
  · exact hf rfl

@[simp] theorem setSeqState_entry (x : SeqState) (s : State) : (s.setSeqState x).entry = s.entry :=
  entry_congr rfl rfl

@[simp] theorem setSeqState_xp (x : SeqState) (s : State) : (s.setSeqState x).xp = s.xp := rfl
@[simp] theorem takeFramePeriod_xp (s : State) : s.takeFramePeriod.xp = s.xp := rfl
@[simp] theorem grantClaim_xp (k : SlotNo) (s : State) : (s.grantClaim k).xp = s.xp := rfl

/-- A unit of a SPACE or SEEK entry begins on a tape that runs in its direction. -/
theorem beginUnit_pass {s : State} {w : Work} {d : Dir} (hc : PassCode s.entry.opcode w d)
    (hm : s.xp.motion = .running) (hd : s.xp.dir = d)
    (hf : d = .forward → s.xp.levels.eom = false) (hr : d = .reverse → s.xp.levels.bom = false) :
    ∃ t, s.beginUnit = (t, none) ∧ Begun s w s.pool t := by
  have check : (s.setSeqState .running).unitCheck = none :=
    unitCheck_pass (by rwa [setSeqState_entry]) hf
  have pass : s.beginUnit = (s.setSeqState .running).beginPass w d := by
    rcases mainOp_of_passCode hc with ⟨rfl, rfl, h⟩ | ⟨rfl, rfl, h⟩ | ⟨rfl, rfl, h⟩ | ⟨rfl, rfl, h⟩ <;>
      simp [State.beginUnit, check, h]
  have request := requestDir_running (s := ((s.setSeqState .running).takeFramePeriod).setWork w)
    (by simpa using hm) (by simpa using hd) (by simpa using hf) (by simpa using hr)
  refine ⟨_, by rw [pass, State.beginPass, request]; rfl, ?_⟩
  constructor <;> simp [hm, State.setSeqState, State.takeFramePeriod]

/-- A READ unit begins on a tape that runs forward, with the lowest-numbered FREE slot (R22, R50). -/
theorem beginUnit_read {s : State} {k : SlotNo} (hc : s.entry.opcode = 0x03)
    (hm : s.xp.motion = .running) (hd : s.xp.dir = .forward) (he : s.xp.levels.eom = false)
    (hk : s.pool.lowestFree = some k) :
    ∃ t, s.beginUnit = (t, none) ∧ Begun s (.read k) (s.pool.put k .claimed) t := by
  have op : s.entry.mainOp = some .read := by simp [ListEntry.mainOp, hc]; decide
  have check : (s.setSeqState .running).unitCheck = none := by
    simp [State.unitCheck, ListEntry.writes, ListEntry.forward, op, he]
  have pool : (s.setSeqState .running).pool = s.pool := rfl
  have free := Pool.lowestFree_state hk
  have read : s.beginUnit = ((s.setSeqState .running).grantClaim k).readGoesOn k := by
    simp [State.beginUnit, check, op, State.beginRead, pool, hk]
  have request := requestDir_running (d := .forward)
    (s := (((s.setSeqState .running).grantClaim k).takeFramePeriod).setWork (.read k))
    (by simpa using hm) (by simpa using hd) (fun _ => by simpa using he) nofun
  refine ⟨_, by rw [read, State.readGoesOn, request]; rfl, ?_⟩
  constructor <;> simp [hm, State.setSeqState, State.takeFramePeriod, State.grantClaim,
    State.dropTarget, Pool.grantRead, free]

/-! ## Units that are over (R48 to R54) -/

theorem bump_le (n : Nat) : bump n ≤ n + 1 := by
  unfold bump; split <;> omega

theorem bump_of_lt {n : Nat} (h : n < 255) : bump n = n + 1 := if_pos h

@[simp] theorem record_entry (f : EntryRecord → EntryRecord) (s : State) :
    (s.record f).entry = s.entry := entry_congr rfl rfl

/-- The unit that reaches the entry's count ends it DONE. -/
theorem unitOver_done {s : State} (h0 : s.entry.count ≠ 0)
    (h : s.entry.count.toNat ≤ s.seq.record.unitsDone) :
    s.unitOver = (s.setWork .none, some .done) := by
  rw [State.unitOver]
  exact if_pos ⟨by simpa using h0, by simpa using h⟩

/-- A unit that does not reach the count is followed by the next one. -/
theorem unitOver_next {s : State}
    (h : s.entry.count = 0 ∨ s.seq.record.unitsDone < s.entry.count.toNat)
    (he : s.entry.stopAtEw = true → s.seq.record.ewPassed = false) (hi : s.seq.stopInd = false) :
    s.unitOver = (s.setWork .none).beginUnit := by
  have count : ¬ (s.entry.count ≠ 0 ∧ s.entry.count.toNat ≤ s.seq.record.unitsDone) := by
    rintro ⟨h0, hle⟩
    exact h.elim h0 (by omega)
  have ew : (s.entry.stopAtEw && s.seq.record.ewPassed) = false := by
    cases hs : s.entry.stopAtEw
    · rfl
    · simp [he hs]
  simp only [State.unitOver, setWork_entry, setWork_seq, count, if_false, ew, hi]
  rfl

/-- The work of the unit before is no matter to the unit that begins. -/
theorem Begun.ofIdle {s t : State} {w : Work} {p : Pool} (h : Begun (s.setWork .none) w p t) :
    Begun s w p t where
  seq := by rw [h.seq]; simp
  motion := h.motion
  dir := by simpa using h.dir
  host := by simpa using h.host
  pool := h.pool
  pos := by simpa using h.pos
  tagMem := by simpa using h.tagMem
  stream := by simpa using h.stream
  capture := by simpa using h.capture
  pending := by simpa using h.pending

/-! ## What keeps the list running while an entry comes to its end -/

section Handed

variable {s v : State} {g : EntryRecord}

theorem Handed.record (h : s.Handed v g) (f : EntryRecord → EntryRecord) :
    s.Handed (v.record f) (f g) := by
  obtain ⟨w, seq⟩ := h.seq
  exact
    { runs := { motion := h.runs.motion, phase := h.runs.phase, state := h.runs.state
                stopInd := h.runs.stopInd, room := h.runs.room }
      seq := ⟨w, by simp [State.record, seq]⟩
      results := h.results, listEnded := h.listEnded, pending := h.pending }

theorem Handed.setWork (h : s.Handed v g) (w : Work) : s.Handed (v.setWork w) g := by
  obtain ⟨w', seq⟩ := h.seq
  have events := event_eq_of_host (s := v) (t := v.setWork w) (by simp) .listEnded
  exact
    { runs := { motion := by simpa using h.runs.motion, phase := by simpa using h.runs.phase
                state := by simpa using h.runs.state, stopInd := by simpa using h.runs.stopInd
                room := by simpa using h.runs.room }
      seq := ⟨w, by simp [seq]⟩
      results := by simpa using h.results
      listEnded := events.trans h.listEnded
      pending := by simpa using h.pending }

theorem Handed.raise (h : s.Handed v g) {e : Event} (he : e ≠ .listEnded) :
    s.Handed (v.raise e) g where
  runs := { motion := h.runs.motion, phase := h.runs.phase, state := h.runs.state
            stopInd := h.runs.stopInd, room := h.runs.room }
  seq := h.seq
  results := h.results
  listEnded := by simpa [event_raise, he] using h.listEnded
  pending := h.pending

theorem Handed.setPool (h : s.Handed v g) (p : Pool) : s.Handed (v.setPool p) g where
  runs := { motion := h.runs.motion, phase := h.runs.phase, state := h.runs.state
            stopInd := h.runs.stopInd, room := h.runs.room }
  seq := h.seq
  results := h.results
  listEnded := h.listEnded
  pending := h.pending

theorem Handed.dropTarget (h : s.Handed v g) : s.Handed v.dropTarget g where
  runs := { motion := h.runs.motion, phase := h.runs.phase, state := h.runs.state
            stopInd := h.runs.stopInd, room := h.runs.room }
  seq := h.seq
  results := h.results
  listEnded := h.listEnded
  pending := h.pending

/-- As the burst ends, the entry record is the one the entry had. -/
theorem BurstDone.handed {s u : State} (h : s.BurstDone u) : s.Handed u s.seq.record where
  runs := h.runs
  seq := ⟨s.seq.work, by rw [h.seq]⟩
  results := by rw [h.host]
  listEnded := event_eq_of_host (by rw [h.host]) _
  pending := h.pending

end Handed

/-! ## Slots that change hands (R23, R30, R31) -/

/-- With no STARVED port, what follows a slot's becoming FREE is SLOT_FREED at most. -/
theorem settleFree_cases {s : State} (hs : s.stream.state ≠ .starved) (before : Nat) :
    s.settleFree before = s ∨ (before = 0 ∧ s.settleFree before = s.raise .slotFreed) := by
  simp only [State.settleFree, State.retryStreamClaim, if_neg hs]
  split
  · next h => exact .inr ⟨h.1, rfl⟩
  · exact .inl rfl

/-- With no STARVED port and a slot FREE before, nothing follows a slot's becoming FREE. -/
theorem settleFree_same {s : State} (hs : s.stream.state ≠ .starved) {before : Nat}
    (hb : before ≠ 0) : s.settleFree before = s :=
  (settleFree_cases hs before).resolve_right fun h => hb h.1

/-- The ACTIVE slot of the unit becomes FREE. -/
theorem freeActive_eq {s : State} {n : SlotNo} (ha : (s.slot n).state = .active) :
    s.freeActive n = (s.setPool (s.pool.put n .free)).settleFree s.pool.freeCount := by
  have free : s.pool.toFree .active n = s.pool.put n .free := if_pos ⟨ha, nofun, nofun⟩
  rw [State.freeActive, free]

@[simp] theorem setPool_setPool (p p' : Pool) (s : State) :
    (s.setPool p).setPool p' = s.setPool p' := rfl

/-- The pool once the block in slot `n` has joined the read queue's tail (R30, R131). -/
def joined (s : State) (n : SlotNo) : Pool :=
  { s.pool.put n { s.slot n with state := .ready, read := (s.slot n).read.flagged } with
    readQ := s.pool.readQ ++ [n]
    drain := if s.pool.readQ = [] then 0 else s.pool.drain }

theorem joined_get_same (s : State) (n : SlotNo) :
    (s.joined n).get n =
      { s.slot n with state := .ready, read := (s.slot n).read.flagged } :=
  (Pool.get_put ..).trans (if_pos rfl)

theorem joined_get_other {s : State} {n m : SlotNo} (h : m ≠ n) :
    (s.joined n).get m = s.slot m :=
  (Pool.get_put ..).trans (if_neg h)

/-- A block that is no duplicate under SUPERSEDE joins the read queue's tail. -/
theorem delivery_joined {p : Pool} {b : Bool} {r : SlotRecord}
    (h : ¬ (r.read.finding = .duplicate ∧ b = true)) : p.delivery b r = .joined := by
  unfold Pool.delivery
  split
  · next hf _ =>
    have hb : b = false := by simpa [hf] using h
    simp [hb]
  · rfl

/-- A block joins the read queue's tail with its finding's flag; READ_AVAILABLE is raised where the queue
was empty. -/
theorem deliver_joined {s : State} {b : Bool} {n : SlotNo} (ha : (s.slot n).state = .active)
    (hd : s.pool.delivery b (s.slot n) = .joined) :
    s.deliver b n =
      if s.pool.readQ = [] then (s.setPool (s.joined n)).raise .readAvailable
      else s.setPool (s.joined n) := by
  have active : (s.pool.get n).state = .active := ha
  have tail : (s.pool.edit n (fun r => { r with read := r.read.flagged })).toReadTail .active n =
      s.joined n := by
    rw [Pool.toReadTail, if_pos ⟨by rw [Pool.get_edit]; exact active, nofun, nofun⟩, Pool.get_edit]
    simp [Pool.edit, Pool.put_put, State.joined, State.slot]
    rfl
  have queue : (s.joined n).readQ ≠ [] := by simp [State.joined]
  simp only [State.deliver, hd, State.joinReadTail, State.editSlot, State.setPool_pool, tail,
    setPool_setPool]
  simp [Pool.edit, queue]

/-- Records put in two slots' places, in either order. -/
theorem put_comm (p : Pool) {n m : SlotNo} (h : n ≠ m) (r r' : SlotRecord) :
    (p.put n r).put m r' = (p.put m r').put n r := by
  have apart : n.val ≠ m.val := fun e => h (Fin.ext e)
  simp only [Pool.put]
  rw [Vector.set_comm _ _ apart]

/-- The tail that a duplicate under SUPERSEDE is tested against (R31, R131). -/
theorem delivery_superseding {p : Pool} {r : SlotRecord} {m : SlotNo} {l : List SlotNo}
    (hf : r.read.finding = .duplicate) (hq : p.readQ = l ++ [m])
    (hs : (p.get m).source = some .medium) (ht : (p.get m).tag = r.tag) (hn : r.tag ≠ none) :
    p.delivery true r = if (p.get m).read.cls = some .damaged then .replaced else .dropped := by
  obtain ⟨t, tag⟩ := Option.ne_none_iff_exists'.mp hn
  have last : p.readQ.getLast? = some m := by simp [hq]
  simp [Pool.delivery, hf, tag, Pool.tailHolds, Pool.tailClass, last, hs, ht]

/-- A duplicate under SUPERSEDE takes the place of a DAMAGED tail, which becomes FREE. -/
theorem deliver_replaced {s : State} {n m : SlotNo} {l : List SlotNo}
    (ha : (s.slot n).state = .active) (hq : s.pool.readQ = l ++ [m]) (hm : m ≠ n)
    (hd : s.pool.delivery true (s.slot n) = .replaced) :
    s.deliver true n = (s.setPool { (s.pool.put m .free).put n { s.slot n with
        state := .ready, read := { (s.slot n).read with supersedes := true } } with
      readQ := l ++ [n]
      drain := if l = [] then 0 else s.pool.drain }).settleFree s.pool.freeCount := by
  have active : (s.pool.get n).state = .active := ha
  have place : (s.pool.edit n (fun r => { r with
        read := { r.read with supersedes := true } })).replaceTail n =
      { (s.pool.put m .free).put n { s.slot n with
          state := .ready, read := { (s.slot n).read with supersedes := true } } with
        readQ := l ++ [n]
        drain := if l = [] then 0 else s.pool.drain } := by
    have last : (s.pool.edit n (fun r => { r with
        read := { r.read with supersedes := true } })).readQ.getLast? = some m := by
      simp [Pool.edit, hq]
    simp only [Pool.replaceTail, last, Pool.get_edit, active, hm, ne_eq, not_false_eq_true, and_self,
      if_true]
    simp [Pool.edit, put_comm _ hm.symm, Pool.put_put, hq, State.slot]
  simp only [State.deliver, hd, State.editSlot, State.setPool_pool, place, setPool_setPool]

/-! ## The entry that follows (R47, R59, R64) -/

/-- The checks of a SPACE_FWD or SEEK_FWD entry that begins on a running tape (R59). -/
theorem entryCheck_pass {s : State} {w : Work} (hc : PassCode s.entry.opcode w .forward)
    (hm : s.xp.motion = .running) (he : s.xp.levels.eom = false) : s.entryCheck = none := by
  have check := unitCheck_pass hc (fun _ => he)
  have reads : s.entry.writes = false := by
    rcases mainOp_of_passCode hc with ⟨-, -, h⟩ | ⟨-, h, -⟩ | ⟨-, -, h⟩ | ⟨-, h, -⟩
    · simp [ListEntry.writes, h]
    · cases h
    · simp [ListEntry.writes, h]
    · cases h
  simp [State.entryCheck, hm, check, ListEntry.stopAtEw, reads]

/-- A SPACE_FWD or SEEK_FWD entry begins on a tape that runs forward. -/
theorem runEntries_pass {s : State} {w : Work} (k : Nat) (hc : PassCode s.entry.opcode w .forward)
    (hm : s.xp.motion = .running) (hd : s.xp.dir = .forward) (he : s.xp.levels.eom = false) :
    Begun (s.record fun _ => .clear) w s.pool (s.runEntries (k + 1)) := by
  have code : PassCode ((s.setSeqState .running).record fun _ => .clear).entry.opcode w .forward := by
    simpa using hc
  obtain ⟨t, begin, begun⟩ := beginUnit_pass code (by exact hm) (by exact hd) (fun _ => he) nofun
  have start : s.startEntry = (t, none) := by
    simp only [State.startEntry, entryCheck_pass code (by exact hm) (by exact he), begin]
  have run : s.runEntries (k + 1) = t := by simp only [State.runEntries, start]
  rw [run]
  exact { begun with seq := begun.seq }

/-- The list goes on to a SPACE_FWD or SEEK_FWD entry, whose unit begins on the running tape. -/
theorem Handed.wentOn {s v : State} {g : EntryRecord} {o : EntryOutcome} {w : Work}
    (h : s.Handed v g) (ht : o.terminal = false) (ho : o ≠ .stopped)
    (hh : (o.short && s.entry.haltOnShort) = false) (hf : s.passFollows w)
    (hd : v.xp.dir = .forward) (he : v.xp.levels.eom = false) :
    s.wentOnWith (v.endEntry o) (v.buildResult o) o w ∧ (v.buildResult o).record = g ∧
      (v.endEntry o).xp.motion = .running ∧ (v.endEntry o).xp.dir = .forward ∧
      (v.endEntry o).pool = v.pool ∧ (v.endEntry o).pos = v.pos ∧
      (v.endEntry o).rch.tagMem = v.rch.tagMem ∧ (v.endEntry o).stream = v.stream ∧
      (v.endEntry o).capture = v.capture := by
  obtain ⟨follows, code⟩ := hf
  obtain ⟨w', seq⟩ := h.seq
  have closed : (v.entryClosed o).seq = { s.seq with
      work := .none, record := g, episode := none } := by simp [seq]
  have entry : (v.entryClosed o).entry = s.entry := entry_congr (by simp [seq]) (by simp [seq])
  have go := goOn_next (s := v.entryClosed o) (o := o) ht ho (by simpa using h.runs.stopInd)
    (by rwa [entry]) (by simpa [State.entryFollows, seq] using follows)
  have index : (v.entryClosed o).nextIndex = s.nextIndex := by simp [State.nextIndex, seq]
  rw [closed, index] at go
  generalize hm : (v.entryClosed o).setSeq _ = m at go
  have current : m.entry = s.seq.main s.nextIndex.val := by
    subst hm
    simp [State.entry, Sequencer.main, Sequencer.entryAt]
  have pass : PassCode m.entry.opcode w .forward := by
    rw [current]
    exact code.imp (fun c => ⟨c.2, c.1⟩) (fun c => ⟨c.2, c.1⟩)
  have xp : m.xp = { v.xp with blankTimer := none } := by rw [← hm]; simp
  have begun := runEntries_pass 16 pass (by rw [xp]; exact h.runs.motion) (by rw [xp]; exact hd)
    (by rw [xp]; exact he)
  have ends : v.endEntry o = m.runEntries 17 := by
    rw [State.endEntry, settleEntry_room o h.runs.room, go]
    rfl
  rw [ends]
  generalize m.runEntries 17 = t at begun
  have mseq : m.seq = { s.seq with
      work := .none, record := g, episode := none, cur := s.nextIndex
      cycle := if s.seq.cur.val + 1 < s.seq.ctl.mainLength then s.seq.cycle
        else s.seq.cycle + 1 } := by rw [← hm]; rfl
  have tseq := begun.seq
  simp only [State.record, State.setSeq_seq, mseq] at tseq
  have host : t.host = (v.entryClosed o).host := by rw [begun.host, ← hm]; rfl
  have event : ∀ e, t.event e = (v.entryClosed o).event e := event_eq_of_host (by rw [host])
  refine ⟨⟨?_, rfl, ?_, ?_, ?_, ?_⟩, by simp [State.buildResult, seq], begun.motion, ?_, ?_, ?_, ?_,
    ?_, ?_⟩
  · rw [host, entryClosed_results, h.results]
  · simp [State.buildResult, seq]
  · simp [State.buildResult, seq]
  · rw [event, entryClosed_event]; simp
  · refine ⟨by rw [tseq], by rw [tseq], by rw [tseq], by rw [tseq], by rw [tseq], by rw [tseq],
      by rw [tseq], by rw [tseq], ?_, ?_⟩
    · rw [event, entryClosed_event, h.listEnded]; simp
    · rw [begun.pending, ← h.pending, ← hm]; simp [State.record]
  · rw [begun.dir]; simp [State.record, xp, hd]
  · rw [begun.pool, ← hm]; simp
  · rw [begun.pos, ← hm]; simp [State.record]
  · rw [begun.tagMem, ← hm]; simp [State.record]
  · rw [begun.stream, ← hm]; simp [State.record]
  · rw [begun.capture, ← hm]; simp [State.record]

/-! ## What the running unit makes of a detection (R50 to R52, R63, R71, R126, R127) -/

section Detections

variable {s u : State} {f : Found}

/-- A block in its direction is a unit of a SPACE, a mark in its direction a unit of a SEEK. -/
theorem handUnit_counted {d : Dir}
    (hw : (u.seq.work = .space d ∧ f.kind = .data) ∨ (u.seq.work = .seek d ∧ f.kind = .mark))
    (hd : f.dir = d) : u.handUnit f = (u.record .done).unitOver := by
  rcases hw with ⟨hw, hk⟩ | ⟨hw, hk⟩ <;> simp [State.handUnit, hw, hk, hd]

/-- A block passes a SEEK. -/
theorem handUnit_passed {d : Dir} (hu : u.Runs) (hw : u.seq.work = .seek d) (hk : f.kind = .data) :
    u.handUnit f = (u, none) := by
  simp [State.handUnit, hw, hk, State.giveUpPass, hu.state]

/-- A mark in its direction ends a SPACE entry. -/
theorem handUnit_spaceMark {d : Dir} (hw : u.seq.work = .space d) (hk : f.kind = .mark)
    (hd : f.dir = d) : u.handUnit f = (u, some u.markOutcome) := by
  simp [State.handUnit, hw, hk, hd]

/-- A mark met forward ends a READ entry, its slot then FREE. -/
theorem handUnit_readMark {n : SlotNo} (hw : u.seq.work = .read n) (hk : f.kind = .mark)
    (hd : f.dir = .forward) :
    u.handUnit f = ((u.freeActive n).dropTarget, some u.markOutcome) := by
  simp [State.handUnit, hw, hk, hd, State.readMark]

/-- A block assembled whole into the READ unit's slot. -/
theorem handUnit_block {n m : SlotNo} {c : ReadClass} (hw : u.seq.work = .read n)
    (hk : f.kind = .data) (hd : f.dir = .forward) (hs : f.stored = some (m, c)) :
    u.handUnit f = u.readBlock n c := by
  simp [State.handUnit, hw, hk, hd, hs]

/-- A block that is delivered is a unit done. -/
theorem readBlock_delivered {n : SlotNo} {c : ReadClass} (hc : c ≠ .damaged)
    (hd : u.pool.delivery u.entry.supersede (u.slot n) ≠ .dropped) :
    u.readBlock n c = ((u.deliver u.entry.supersede n).record
      (fun r => r.done.marginalIf (c == .marginal))).unitOver := by
  simp [State.readBlock, hc, hd]

/-- A block that is dropped is no unit, and the unit claims again. -/
theorem readBlock_dropped {n : SlotNo} {c : ReadClass} (hc : c ≠ .damaged)
    (hd : u.pool.delivery u.entry.supersede (u.slot n) = .dropped)
    (hi : (u.freeActive n).seq.stopInd = false) :
    u.readBlock n c = (((u.freeActive n).record .drop).setWork .none).beginUnit := by
  have dropped : u.deliver u.entry.supersede n = u.freeActive n := by simp [State.deliver, hd]
  have go : (((u.freeActive n).record .drop).setWork .none).seq.stopInd = false := by
    simpa [State.record] using hi
  simp only [State.readBlock, hc, if_false, hd, dropped, State.unitDropped, go]
  rfl

/-- A unit that is the last of its entry ends it DONE. -/
theorem unitOver_last {v : State} {g : EntryRecord} (h : s.Handed v g) {k : Nat}
    (hg : g.unitsDone = k) (hc : s.entry.count.toNat = k) (hk : 0 < k) :
    carryOut v.unitOver = (v.setWork .none).endEntry .done := by
  obtain ⟨w, seq⟩ := h.seq
  have nonzero : v.entry.count ≠ 0 := by
    rw [h.entry]
    intro h0
    rw [h0] at hc
    simp at hc
    omega
  rw [unitOver_done nonzero (by rw [h.entry, seq, hc]; exact hg.ge)]
  rfl

/-- A unit that is not the last of its entry is followed by the next one (R48 to R55). -/
theorem Handed.unitOver_follows {v : State} {g : EntryRecord} (h : s.Handed v g)
    (hf : s.unitFollows) (hg : g.unitsDone ≤ s.seq.record.unitsDone + 1)
    (he : g.ewPassed = s.seq.record.ewPassed) : v.unitOver = (v.setWork .none).beginUnit := by
  obtain ⟨count, ew, -⟩ := hf
  obtain ⟨w, seq⟩ := h.seq
  rw [← h.entry] at count ew
  refine unitOver_next (count.imp_right fun h => ?_) (fun h => ?_) h.runs.stopInd
  · rw [seq]
    exact hg.trans_lt h
  · rw [seq]
    exact he.trans (ew h)

/-- The unit that reaches the count raises units done by exactly one. -/
theorem done_unitsDone {r : EntryRecord} {c : Byte} (h : c.toNat = r.unitsDone + 1) :
    r.done = { r with unitsDone := r.unitsDone + 1 } := by
  have := c.isLt
  rw [EntryRecord.done, bump_of_lt (by omega)]

/-- The outcome of an entry that a mark ends, with no STOP taken. -/
theorem markOutcome_eq (hu : u.Runs) :
    u.markOutcome = if u.entry.count = 0 then .done else .fileMarkMet := by
  simp only [State.markOutcome, hu.stopInd]
  split <;> simp_all

/-- The flags that a finding leaves on a delivered block (R131). -/
theorem flagged_eq (r : ReadStatus) : r.flagged = { r with
    sequenceBreak := r.sequenceBreak || r.finding == .seqBreak
    duplicate := r.duplicate || r.finding == .duplicate } := by
  obtain ⟨_, _, _, _, _, _, _, _, _, _, _, _, _, _, finding⟩ := r
  cases finding <;> simp [ReadStatus.flagged]

/-- The last unit of a SPACE or SEEK entry ends the list. -/
theorem lastUnit_counted {d : Dir} (b : s.BurstDone u)
    (hw : (s.seq.work = .space d ∧ f.kind = .data) ∨ (s.seq.work = .seek d ∧ f.kind = .mark))
    (hd : f.dir = d) (hc : s.entry.count.toNat = s.seq.record.unitsDone + 1) :
    ∃ v, s.Handed v { s.seq.record with unitsDone := s.seq.record.unitsDone + 1 } ∧
      u.handUnit f = (v, some .done) ∧ v.xp.dir = s.xp.dir ∧ v.xp.levels = s.xp.levels ∧
      v.pool = u.pool ∧ v.pos = u.pos ∧ v.rch = u.rch ∧ v.stream = s.stream ∧
      v.capture = u.capture := by
  have handed := b.handed.record .done
  rw [done_unitsDone hc] at handed
  have nonzero : (u.record .done).entry.count ≠ 0 := by
    rw [handed.entry]
    intro h0
    simp [h0] at hc
  have count : (u.record .done).entry.count.toNat ≤ (u.record .done).seq.record.unitsDone := by
    rw [handed.entry, hc]
    simp [State.record, b.seq, done_unitsDone hc]
  refine ⟨_, handed.setWork .none, ?_, ?_⟩
  · rw [handUnit_counted (by rwa [b.seq]) hd, unitOver_done nonzero count]
  · simp [State.record, b.dir, b.levels, b.stream]

/-- A mark that ends a SPACE or READ entry: the unit's slot is FREE then. -/
theorem handUnit_mark {d : Dir} {p : Pool} (b : s.BurstDone u)
    (hw : (s.seq.work = .space d ∧ p = u.pool) ∨ (∃ n, s.seq.work = .read n ∧ d = .forward ∧
      (u.slot n).state = .active ∧ u.stream.state ≠ .starved ∧ p = u.pool.put n SlotRecord.free))
    (hk : f.kind = .mark) (hd : f.dir = d) :
    ∃ v, s.Handed v s.seq.record ∧ u.handUnit f = (v, some u.markOutcome) ∧ v.pool = p ∧
      v.pos = u.pos ∧ v.stream = s.stream := by
  rcases hw with ⟨hw, rfl⟩ | ⟨n, hw, rfl, ha, hst, rfl⟩
  · exact ⟨u, b.handed, handUnit_spaceMark (by rw [b.seq, hw]) hk hd, rfl, rfl, b.stream⟩
  · have freed := settleFree_cases (s := u.setPool (u.pool.put n .free)) hst u.pool.freeCount
    rw [← freeActive_eq ha] at freed
    have hand := handUnit_readMark (n := n) (by rw [b.seq, hw]) hk hd
    rcases freed with e | ⟨-, e⟩ <;> rw [e] at hand
    · exact ⟨_, (b.handed.setPool _).dropTarget, hand, rfl, rfl, b.stream⟩
    · exact ⟨_, ((b.handed.setPool _).raise (e := .slotFreed) nofun).dropTarget, hand, rfl, rfl, b.stream⟩

/-- A block that joins the read queue is a unit done. -/
theorem handUnit_joined {n : SlotNo} {c : ReadClass} (b : s.BurstDone u)
    (hw : s.seq.work = .read n) (hk : f.kind = .data) (hd : f.dir = .forward)
    (hst : f.stored = some (n, c)) (hc : c ≠ .damaged) (ha : (u.slot n).state = .active)
    (hdup : ¬ ((u.slot n).read.finding = .duplicate ∧ s.entry.supersede = true)) :
    ∃ v, s.Handed v (s.seq.record.done.marginalIf (c == .marginal)) ∧ u.handUnit f = v.unitOver ∧
      v.seq = { s.seq with record := s.seq.record.done.marginalIf (c == .marginal) } ∧
      v.host = (if u.pool.readQ = [] then u.host.flagged .readAvailable else u.host) ∧
      v.pool = u.joined n ∧ v.pos = u.pos ∧ v.xp = u.xp ∧ v.stream = s.stream := by
  have entry : u.entry = s.entry := b.handed.entry
  have joined := delivery_joined (p := u.pool) (r := u.slot n) hdup
  have hand := handUnit_block (by rw [b.seq, hw]) hk hd hst
  rw [readBlock_delivered hc (by rw [entry, joined]; nofun), entry, deliver_joined ha joined] at hand
  by_cases hq : u.pool.readQ = []
  · rw [if_pos hq] at hand
    refine ⟨_, ((b.handed.setPool (u.joined n)).raise (e := .readAvailable) nofun).record _, hand, ?_⟩
    simp [hq, State.record, State.raise, b.seq, b.stream, HostPort.flagged]
  · rw [if_neg hq] at hand
    refine ⟨_, (b.handed.setPool (u.joined n)).record _, hand, ?_⟩
    simp [hq, State.record, b.seq, b.stream]

/-- The sequencer turned FROZEN with the episode `e` kept, the tape not yet stopped (R63, R90). -/
def frozenWith (e : Episode) (s : State) : State :=
  (((((s.setEpisode (some e)).setWork .none).setSeqState .recovery).setSeqState .frozen).setWork
    .none).dropTarget

theorem frozenWith_seq (e : Episode) (s : State) :
    (s.frozenWith e).seq = { s.seq with state := .frozen, work := .none, episode := some e } := by
  simp [State.frozenWith, State.setSeqState, State.setEpisode]

theorem frozenWith_host (e : Episode) (s : State) : (s.frozenWith e).host = s.host := by
  simp [State.frozenWith, State.setSeqState, State.setEpisode]

/-- A failed unit with no recovery and FREEZE_ON_FAILURE has the sequencer FROZEN (R63, R77, R90). -/
theorem openEpisode_frozen {e : Episode} (hu : u.Runs) (hn : u.entry.noRecovery = true)
    (hf : u.seq.ctl.freezeOnFailure = true) (hb : e.budget = u.entry.budget.toNat)
    (ha : e.attempts = 0) (hc : e.cur = none) :
    ∃ t, u.openEpisode e.kind e.slot e.tag e.last = (t, none) ∧ t.pool = u.pool ∧
      t.host = u.host.flagged .frozenEntered ∧ t.xp.motion = .stopping ∧
      t.seq = { u.seq with state := .frozen, work := .none, episode := some e } ∧
      t.capture = u.capture ∧ t.pos = u.pos ∧ t.stream = u.stream := by
  have eq : u.openEpisode e.kind e.slot e.tag e.last =
      (((u.frozenWith e).requestStop).raise .frozenEntered, none) := by
    obtain ⟨kind, slot, tag, budget, attempts, cur, last⟩ := e
    dsimp only at hb ha hc ⊢
    subst hb ha hc
    simp [State.openEpisode, hn, State.exhaust, State.setSeqState, State.setEpisode, hf, State.freeze,
      State.frozenWith]
    rfl
  have stop : (u.frozenWith e).requestStop.xp.motion = .stopping :=
    requestStop_motion (by simp [State.frozenWith, State.setEpisode, hu.motion])
      (by simp [State.frozenWith, State.setEpisode, State.setSeqState, hu.phase])
  refine ⟨_, eq, ?pool, ?host, stop, ?seq, ?rest⟩
  case host => simp [State.raise, HostPort.flagged, frozenWith_host]
  case seq => simp [State.raise, frozenWith_seq]
  all_goals simp [State.raise, State.frozenWith, State.setSeqState, State.setEpisode]

/-- A duplicate under SUPERSEDE that takes the place of a DAMAGED tail is a unit done. -/
theorem handUnit_replaced {n m : SlotNo} {c : ReadClass} {l : List SlotNo} (b : s.BurstDone u)
    (hand : u.handUnit f = u.readBlock n c) (hc : c ≠ .damaged) (ha : (u.slot n).state = .active)
    (hsup : s.entry.supersede = true) (hq : u.pool.readQ = l ++ [m]) (hm : m ≠ n)
    (hd : u.pool.delivery true (u.slot n) = .replaced) (hfree : 0 < u.pool.freeCount)
    (hst : u.stream.state ≠ .starved) :
    ∃ v, s.Handed v (s.seq.record.done.marginalIf (c == .marginal)) ∧ u.handUnit f = v.unitOver ∧
      v.pool = { (u.pool.put m SlotRecord.free).put n { u.slot n with
          state := .ready, read := { (u.slot n).read with supersedes := true } } with
        readQ := l ++ [n]
        drain := if l = [] then 0 else u.pool.drain } := by
  have entry : u.entry = s.entry := b.handed.entry
  rw [readBlock_delivered hc (by rw [entry, hsup, hd]; nofun), entry, hsup,
    deliver_replaced ha hq hm hd] at hand
  rw [settleFree_same (by exact hst) hfree.ne'] at hand
  exact ⟨_, (b.handed.setPool _).record _, hand, rfl⟩

/-- A duplicate under SUPERSEDE of a tail that is not DAMAGED is dropped, and the unit claims again. -/
theorem handUnit_dropped {n : SlotNo} {c : ReadClass} (b : s.BurstDone u)
    (hand : u.handUnit f = u.readBlock n c) (hc : c ≠ .damaged) (ha : (u.slot n).state = .active)
    (hsup : s.entry.supersede = true) (hd : u.pool.delivery true (u.slot n) = .dropped)
    (hfree : 0 < u.pool.freeCount) (hst : u.stream.state ≠ .starved) :
    u.handUnit f =
      (((u.setPool (u.pool.put n .free)).record .drop).setWork .none).beginUnit := by
  have entry : u.entry = s.entry := b.handed.entry
  have freed : u.freeActive n = u.setPool (u.pool.put n .free) := by
    rw [freeActive_eq ha, settleFree_same (by exact hst) hfree.ne']
  rw [hand, readBlock_dropped hc (by rw [entry, hsup, hd]) (by rw [freed]; exact b.runs.stopInd), freed]

end Detections

end State

open State in
/-- Settles O60: the row that ends the burst hands the detection on in the same event, and the clauses say
what `handUnit` makes of it for each kind of unit. -/
theorem detectionReachesTheUnit : Obligations.DetectionReachesTheUnit := by
  intro x s u hm hw hp hl hst hi hr
  have runs : s.Runs := ⟨hm, hw, hst, hi, hr⟩
  refine ⟨fun he => ?noise, fun f he => ?_⟩
  case noise =>
    rw [exec_endingRow x runs hp hl he, burstOver_none (burstDone_of_endBurst runs he).runs]
  have b := burstDone_of_endBurst runs he
  have ex := exec_endingRow x runs hp hl he
  rw [burstOver_some b.runs] at ex
  have entry : u.entry = s.entry := b.handed.entry
  refine ⟨?spaceLast, ?seekBlock, ?mark, ?seekLast, ?readLast, ?superseding, ?nextPass, ?nextRead,
    ?nextEntry, ?damaged⟩
  case spaceLast =>
    intro d hwork hk hd hlast hc
    obtain ⟨v, handed, outcome, -, -, pool, pos, rch, stream, capture⟩ :=
      lastUnit_counted b (.inl ⟨hwork, hk⟩) hd hc
    obtain ⟨list, record, ended⟩ := handed.completed (o := .done) rfl nofun (.inr hlast)
    exact ⟨_, _, by rw [ex, outcome]; rfl, list, record, ended.motion, by simp [ended.pool, pool],
      by simp [ended.pos, pos], by simp [ended.rch, rch], by simp [ended.stream, stream],
      by simp [ended.capture, capture]⟩
  case seekBlock =>
    intro d hwork hk
    rw [ex, handUnit_passed b.runs (by rw [b.seq, hwork]) hk]
    rfl
  case mark =>
    intro d o p hwork hk hd hlast ho
    obtain ⟨v, handed, outcome, pool, pos, stream⟩ := handUnit_mark b hwork hk hd
    rw [markOutcome_eq b.runs, entry, ← ho] at outcome
    have plain : o.terminal = false ∧ o ≠ .stopped := by
      rw [ho]
      split <;> exact ⟨rfl, nofun⟩
    obtain ⟨list, record, ended⟩ := handed.completed plain.1 plain.2
      (hlast.symm.imp_left fun h => ⟨by rw [ho, if_neg h.2]; rfl, h.1⟩)
    exact ⟨_, _, by rw [ex, outcome]; rfl, list, record, ended.motion, by simp [ended.pool, pool],
      by simp [ended.pos, pos], by simp [ended.stream, stream]⟩
  case seekLast =>
    intro d hwork hk hd hlast hc
    obtain ⟨v, handed, outcome, -, -, pool, pos, -, stream, -⟩ :=
      lastUnit_counted b (.inr ⟨hwork, hk⟩) hd hc
    obtain ⟨list, record, ended⟩ := handed.completed (o := .done) rfl nofun (.inr hlast)
    exact ⟨_, _, by rw [ex, outcome]; rfl, list, record, ended.motion, by simp [ended.pool, pool],
      by simp [ended.pos, pos], by simp [ended.stream, stream]⟩
  case readLast =>
    intro n c hwork hk hd hs hc ha hlast hcount hdup
    obtain ⟨v, handed, outcome, -, host, pool, pos, -⟩ := handUnit_joined b hwork hk hd hs hc ha hdup
    have unitsDone := done_unitsDone hcount
    have last := unitOver_last handed (k := s.seq.record.unitsDone + 1) (by rw [unitsDone]; rfl)
      hcount (by omega)
    obtain ⟨list, record, ended⟩ :=
      (handed.setWork .none).completed (o := .done) rfl nofun (.inr hlast)
    refine ⟨_, _, by rw [ex, outcome, last], list, by rw [record, unitsDone]; rfl, ?_, ?_, ?_⟩
    · rw [ended.pool, entryClosed_pool, setWork_pool, pool, State.joined, flagged_eq]
    · intro hq
      have available : (v.setWork .none).event .readAvailable = true := by
        rw [event_eq_of_host (s := u.raise .readAvailable) (by simp [host, hq]; rfl), event_raise]
        simp
      rw [ended.event, entryClosed_event, available]
      rfl
    · rw [ended.pos, entryClosed_pos, setWork_pos, pos]
  case superseding =>
    intro n m c l hwork hk hd hs hc ha hdup hsup hq hne hsrc htag hn hfree hstarved hlast hcount
    have delivery := delivery_superseding hdup hq hsrc htag hn
    have hand := handUnit_block (by rw [b.seq, hwork]) hk hd hs
    refine ⟨fun hcls => ?_, fun hcls hop hlow hdir heom => ?_⟩
    · rw [if_pos (by exact hcls)] at delivery
      obtain ⟨v, handed, outcome, pool⟩ :=
        handUnit_replaced b hand hc ha hsup hq hne delivery hfree hstarved
      have unitsDone := done_unitsDone hcount
      have last := unitOver_last handed (k := s.seq.record.unitsDone + 1) (by rw [unitsDone]; rfl)
        hcount (by omega)
      obtain ⟨list, record, ended⟩ :=
        (handed.setWork .none).completed (o := .done) rfl nofun (.inr hlast)
      refine ⟨_, _, by rw [ex, outcome, last], list, by rw [record, unitsDone]; rfl, ?_⟩
      rw [ended.pool, entryClosed_pool, setWork_pool, pool]
    · rw [if_neg (by exact hcls)] at delivery
      have again := handUnit_dropped b hand hc ha hsup delivery hfree hstarved
      have free : (u.pool.put n .free).lowestFree = some n :=
        Pool.lowestFree_eq_some (by simp [Pool.get_put]; rfl) fun j hj => by
          rw [Pool.get_put, if_neg hj.ne]
          exact hlow j hj
      obtain ⟨t, begin, begun⟩ := beginUnit_read (k := n)
        (s := ((u.setPool (u.pool.put n .free)).record .drop).setWork .none)
        (by rw [setWork_entry, record_entry]; exact entry ▸ hop)
        (by simpa [State.record] using b.runs.motion)
        (by simpa [State.record, b.dir] using hdir) (by simpa [State.record, b.levels] using heom)
        (by simpa [State.record] using free)
      refine ⟨t, by rw [ex, again, begin]; rfl, ?_, ?_, ?_, begun.motion, ?_⟩
      · rw [begun.ofIdle.seq]
        simp [State.record, b.seq, hst, EntryRecord.drop]
      · rw [begun.pool]
        simp [State.record, Pool.put_put]
        rfl
      · rw [begun.ofIdle.host]; rfl
      · rw [begun.ofIdle.pos]; rfl
  case nextPass =>
    intro d op hwork hd hdir hop hfollow hf hr
    have code : PassCode s.entry.opcode s.seq.work d := by
      rcases hwork with ⟨h, -, ho⟩ | ⟨h, -, ho⟩
      · exact .inl ⟨h, hop.trans ho⟩
      · exact .inr ⟨h, hop.trans ho⟩
    have hand := handUnit_counted (u := u) (f := f) (d := d)
      (by rw [b.seq]; exact hwork.imp (fun h => ⟨h.1, h.2.1⟩) (fun h => ⟨h.1, h.2.1⟩)) hd
    rw [(b.handed.record .done).unitOver_follows hfollow (bump_le _) rfl] at hand
    obtain ⟨t, begin, begun⟩ := beginUnit_pass (s := (u.record .done).setWork .none)
      (by rw [setWork_entry, record_entry, entry]; exact code)
      (by simpa [State.record] using b.runs.motion) (by simpa [State.record, b.dir] using hdir)
      (by simpa [State.record, b.levels] using hf) (by simpa [State.record, b.levels] using hr)
    have done := begun.ofIdle
    refine ⟨t, by rw [ex, hand, begin]; rfl, ?_, done.motion, ?_, done.host, ?_, done.pos,
      done.tagMem, done.stream.trans b.stream, done.capture, done.pending.trans b.pending⟩
    · rw [done.seq]
      simp [State.record, b.seq, hst, Sequencer.unitDone, EntryRecord.done]
    · rw [done.dir]
      exact b.dir.trans hdir
    · rw [done.pool, setWork_pool]
      rfl
  case nextRead =>
    intro n k c hwork hk hd hdir hs hc ha hfollow hop heom hdup hfree hlow
    obtain ⟨v, handed, hand, seq, host, pool, pos, xp, stream⟩ :=
      handUnit_joined b hwork hk hd hs hc ha hdup
    rw [handed.unitOver_follows hfollow (bump_le _) rfl] at hand
    have apart : k ≠ n := by
      rintro rfl
      rw [ha] at hfree
      cases hfree
    have free : (u.joined n).lowestFree = some k :=
      Pool.lowestFree_eq_some (by rw [joined_get_other apart]; exact hfree) fun j hj => by
        by_cases h : j = n
        · rw [h, joined_get_same]; nofun
        · rw [joined_get_other h]; exact hlow j hj
    obtain ⟨t, begin, begun⟩ := beginUnit_read (s := v.setWork .none) (k := k)
      (by rw [setWork_entry, handed.entry, hop]) (by simpa using handed.runs.motion)
      (by simpa [xp, b.dir] using hdir) (by simpa [xp, b.levels] using heom)
      (by rw [setWork_pool, pool, free])
    have done := begun.ofIdle
    refine ⟨t, by rw [ex, hand, begin]; rfl, ?_, ?_, done.host.trans host, done.motion,
      done.pos.trans pos, done.stream.trans stream, done.pending.trans handed.pending⟩
    · rw [done.seq, seq, ← hst]
      rfl
    · rw [begun.pool, setWork_pool, pool]
      rfl
  case nextEntry =>
    intro o w g hfollow hd hdir heom hcases
    rcases hcases with ⟨hwork, hc, rfl, rfl⟩ | ⟨hwork, hk, rfl, ho⟩
    · obtain ⟨v, handed, outcome, dir, levels, pool, pos, rch, stream, capture⟩ :=
        lastUnit_counted b hwork hd hc
      obtain ⟨went, record, motion, dir', pool', pos', tagMem', stream', capture'⟩ :=
        handed.wentOn (o := .done) rfl nofun rfl hfollow (dir.trans hdir) (by rw [levels, heom])
      exact ⟨_, _, by rw [ex, outcome]; rfl, went, record, motion, dir', pool'.trans pool,
        pos'.trans pos, by rw [tagMem', rch], stream'.trans stream, capture'.trans capture⟩
    · have outcome := handUnit_spaceMark (u := u) (by rw [b.seq, hwork]) hk hd
      rw [markOutcome_eq b.runs, entry] at outcome
      have plain : o.terminal = false ∧ o ≠ .stopped ∧ (o.short && s.entry.haltOnShort) = false ∧
          o = if s.entry.count = 0 then .done else .fileMarkMet := by
        rcases ho with ⟨h0, rfl⟩ | ⟨h0, hh, rfl⟩
        · exact ⟨rfl, nofun, rfl, (if_pos h0).symm⟩
        · exact ⟨rfl, nofun, by simp [hh], (if_neg h0).symm⟩
      obtain ⟨terminal, stopped, short, eq⟩ := plain
      rw [← eq] at outcome
      obtain ⟨went, record, motion, dir, pool, pos, tagMem, stream, capture⟩ :=
        b.handed.wentOn terminal stopped short hfollow (b.dir.trans hdir) (by rw [b.levels, heom])
      exact ⟨_, _, by rw [ex, outcome]; rfl, went, record, motion, dir, pool, pos, tagMem,
        stream.trans b.stream, capture⟩
  case damaged =>
    intro n hwork hk hd hs hn hf
    have hand := handUnit_block (by rw [b.seq, hwork]) hk hd hs
    have block : u.readBlock n .damaged = u.openEpisode .read (some n) (u.slot n).tag .damaged :=
      if_pos rfl
    obtain ⟨t, frozen, pool, host, motion, seq, capture, pos, stream⟩ :=
      openEpisode_frozen (e := ⟨.read, some n, (u.slot n).tag, s.entry.budget.toNat, 0, none, .damaged⟩)
        b.runs (by rw [entry, hn]) (by rw [b.seq, hf]) (by rw [entry]) rfl rfl
    exact ⟨t, by rw [ex, hand, block, frozen]; rfl, pool, host, motion, seq, capture, pos,
      stream.trans b.stream⟩

end Sys2Proof.Machine
end

section
/-! SUPPORT. What every step keeps: the queues of the pool, the addressed stores, the result queue, the
timing table and the stream port (R17, R18, R24, R45, R152, R170, R189). -/

namespace Sys2Proof.Machine

/-! ## Laws along changes -/

/-- A step makes changes of the listed kinds, from the state without the command at the front of its
queue. -/
theorem changes_of_step {s t : State} (h : step s = .next t) :
    ∃ l, Changes { s with pending := l } t := by
  unfold step at h
  split at h
  · cases h
    exact ⟨s.pending, .refl⟩
  · next c rest _ =>
    obtain ⟨u, hu, changes⟩ := exec_changes c { s with pending := rest }
    obtain rfl : u = t := by simpa [hu] using h
    exact ⟨rest, changes⟩

namespace Changes

variable {a s : State}

/-- A law of the pool that every change of the pool keeps, and that the pool after a pin reset has. -/
theorem keeps_pool {P : Pool → Prop} (hr : P .reset) (hp : ∀ {p q}, PoolStep p q → P p → P q)
    (h : Changes a s) (ha : P a.pool) : P s.pool := by
  induction h with
  | pool _ step ih => exact hp step ih
  | pinReset => exact hr
  | _ => assumption

end Changes

/-! ## The queues of the pool (R18, R24, R30) -/

/-- A queue holds the slots of one state, each once. -/
def Pool.Queued (p : Pool) (st : SlotState) (q : List SlotNo) : Prop :=
  q.Nodup ∧ ∀ n, n ∈ q ↔ (p.get n).state = st

theorem Pool.queuesLawful_iff {p : Pool} :
    p.queuesLawful ↔ p.Queued .queued p.writeQ ∧ p.Queued .ready p.readQ := by
  simp only [Pool.queuesLawful, Pool.Queued]
  tauto

namespace Pool.Queued

variable {p : Pool} {st : SlotState} {q : List SlotNo} {n : SlotNo} {r : SlotRecord}

/-- A record put in a slot's place that enters and leaves no queue. -/
theorem put (h : p.Queued st q) (hr : r.state = st ↔ (p.get n).state = st) :
    (p.put n r).Queued st q := by
  refine ⟨h.1, fun m => ?_⟩
  rw [Pool.get_put]
  split
  · next e => rw [e, hr, h.2 n]
  · exact h.2 m

/-- A slot that was not of the state takes it, and joins the queue at the tail. -/
theorem join (h : p.Queued st q) (hn : (p.get n).state ≠ st) (hr : r.state = st) :
    (p.put n r).Queued st (q ++ [n]) := by
  have out : n ∉ q := fun hq => hn ((h.2 n).mp hq)
  refine ⟨List.nodup_append.mpr ⟨h.1, List.nodup_singleton n, ?_⟩, fun m => ?_⟩
  · simpa using fun m hm => ne_of_mem_of_not_mem hm out
  · rw [Pool.get_put]
    by_cases e : m = n
    · simp [e, hr]
    · simp [e, h.2 m]

/-- The order of a queue is no matter. -/
theorem perm {q' : List SlotNo} (h : p.Queued st q) (hq : q.Perm q') : p.Queued st q' :=
  ⟨hq.nodup_iff.mp h.1, fun n => by rw [← hq.mem_iff, h.2 n]⟩

/-- The head of the queue leaves it as its slot leaves the state. -/
theorem leave (h : p.Queued st (n :: q)) (hr : r.state ≠ st) : (p.put n r).Queued st q := by
  obtain ⟨out, nodup⟩ := List.nodup_cons.mp h.1
  refine ⟨nodup, fun m => ?_⟩
  rw [Pool.get_put]
  by_cases e : m = n
  · simp [e, hr, out]
  · simp [e, ← h.2 m]

end Pool.Queued

/-- Both queues of a pool whose slot `n` takes a record of a state that no queue holds, as it had. -/
theorem Pool.queuesLawful_put {p : Pool} {n : SlotNo} {r : SlotRecord} (h : p.queuesLawful)
    (hw : r.state = .queued ↔ (p.get n).state = .queued)
    (hr : r.state = .ready ↔ (p.get n).state = .ready) : (p.put n r).queuesLawful := by
  obtain ⟨write, read⟩ := Pool.queuesLawful_iff.mp h
  exact Pool.queuesLawful_iff.mpr ⟨write.put hw, read.put hr⟩

/-- A pool after a reset, whatever its bytes. -/
theorem Pool.queuesLawful_reset (m : Memory) : ({ Pool.reset with data := m } : Pool).queuesLawful := by
  have free : ∀ n, (({ Pool.reset with data := m } : Pool).get n).state = .free := by
    simp [Pool.get, Pool.reset, SlotRecord.free]
  exact ⟨List.nodup_nil, List.nodup_nil, fun n => by rw [free n]; simp [Pool.reset],
    fun n => by rw [free n]; simp [Pool.reset]⟩

/-- A slot that was in no queue joins the write queue. -/
theorem Pool.queuesLawful_joinWrite {p q : Pool} {n : SlotNo} {r : SlotRecord} (h : p.queuesLawful)
    (hw : (p.get n).state ≠ .queued) (hr : (p.get n).state ≠ .ready) (hq : r.state = .queued)
    (hs : q.slots = (p.put n r).slots) (hwq : (p.writeQ ++ [n]).Perm q.writeQ)
    (hrq : q.readQ = p.readQ) : q.queuesLawful := by
  obtain ⟨write, read⟩ := Pool.queuesLawful_iff.mp h
  have same : ∀ st l, q.Queued st l ↔ (p.put n r).Queued st l := by
    simp [Pool.Queued, Pool.get, hs]
  rw [Pool.queuesLawful_iff, same, same, hrq]
  exact ⟨(write.join hw hq).perm hwq, read.put (by simp [hq, hr])⟩

/-- Every change of the pool keeps each queue holding the slots of its state, each once. -/
theorem PoolStep.keeps_queues {p q : Pool} (hs : PoolStep p q) (h : p.queuesLawful) :
    q.queuesLawful := by
  have write := (Pool.queuesLawful_iff.mp h).1
  have read := (Pool.queuesLawful_iff.mp h).2
  cases hs with
  | edit n f => exact Pool.queuesLawful_put h .rfl .rfl
  | append n b =>
    unfold Pool.append
    split
    · exact Pool.queuesLawful_put (p := p) (n := n) h .rfl .rfl
    · exact h
  | grantFill n src =>
    unfold Pool.grantFill
    split
    · next e => exact Pool.queuesLawful_put h (by simp [e, SlotRecord.filling]) (by simp [e, SlotRecord.filling])
    · exact h
  | grantRead n =>
    unfold Pool.grantRead
    split
    · next e => exact Pool.queuesLawful_put h (by simp [e, SlotRecord.claimed]) (by simp [e, SlotRecord.claimed])
    · exact h
  | grantMark n =>
    unfold Pool.grantMark
    split
    · next e => exact Pool.queuesLawful_joinWrite h (by simp [e]) (by simp [e]) rfl rfl .rfl rfl
    · exact h
  | toFree st n =>
    unfold Pool.toFree
    split
    · next e =>
      obtain ⟨e, hq, hr⟩ := e
      exact Pool.queuesLawful_put h (by simp [e, hq, SlotRecord.free]) (by simp [e, hr, SlotRecord.free])
    · exact h
  | queueFilled n =>
    unfold Pool.queueFilled
    split
    · next e => exact Pool.queuesLawful_joinWrite h (by simp [e]) (by simp [e]) rfl rfl .rfl rfl
    · exact h
  | requeue n =>
    unfold Pool.requeue
    split
    · next e => exact Pool.queuesLawful_joinWrite h (by simp [e]) (by simp [e]) rfl rfl .rfl rfl
    · exact h
  | headReturn n =>
    unfold Pool.headReturn
    split
    · next e =>
      exact Pool.queuesLawful_joinWrite h (by simp [e]) (by simp [e]) rfl rfl
        (List.perm_append_singleton n p.writeQ) rfl
    · exact h
  | takeHead =>
    unfold Pool.takeHead
    split
    · exact h
    · next n l e =>
      rw [e] at write
      have queued : (p.get n).state = .queued := (write.2 n).mp List.mem_cons_self
      exact Pool.queuesLawful_iff.mpr ⟨write.leave nofun, read.put (by simp [queued])⟩
  | hold n =>
    unfold Pool.hold
    split
    · next e => exact Pool.queuesLawful_put h (by simp [e]) (by simp [e])
    · exact h
  | toReadTail st n =>
    unfold Pool.toReadTail
    split
    · next e =>
      obtain ⟨e, hq, hr⟩ := e
      exact Pool.queuesLawful_iff.mpr
        ⟨write.put (by simp [e, hq]), read.join (by rwa [e]) rfl⟩
    · exact h
  | replaceTail n =>
    unfold Pool.replaceTail
    split
    · exact h
    · next t e =>
      split
      · next ha =>
        obtain ⟨active, apart⟩ := ha
        obtain ⟨l, tail⟩ := List.getLast?_eq_some_iff.mp e
        rw [tail] at read
        have ready : (p.get t).state = .ready := (read.2 t).mp (by simp)
        have other : ((p.put t .free).get n).state = .active := by
          rw [Pool.get_put, if_neg (Ne.symm apart), active]
        have write' := write.put (n := t) (r := .free) (by simp [ready, SlotRecord.free])
        have read' := (read.perm (List.perm_append_singleton t l)).leave (r := .free) nofun
        simp only [tail, List.dropLast_concat]
        exact Pool.queuesLawful_iff.mpr
          ⟨write'.put (by simp [other]), read'.join (by simp [other]) rfl⟩
      · exact h
  | releaseHead =>
    unfold Pool.releaseHead
    split
    · exact h
    · next n l e =>
      rw [e] at read
      have ready : (p.get n).state = .ready := (read.2 n).mp List.mem_cons_self
      exact Pool.queuesLawful_iff.mpr
        ⟨write.put (by simp [ready, SlotRecord.free]), read.leave nofun⟩
  | drain | tag => exact h
  | softReset => exact Pool.queuesLawful_reset _

/-- Settles O57: every change of the pool that a step can make keeps the queues. -/
theorem queuesStayLawful : Obligations.QueuesStayLawful := by
  intro s t h hstep
  obtain ⟨l, changes⟩ := changes_of_step hstep
  exact changes.keeps_pool (P := Pool.queuesLawful) (Pool.queuesLawful_reset [])
    PoolStep.keeps_queues h

/-! ## The addressed stores (R17, R45) -/

/-- A store in its canonical form with no address at or beyond a bound. -/
def Memory.Lawful (n : Nat) (m : Memory) : Prop := m.wf = true ∧ m.within n

theorem Memory.Lawful.write {n k : Nat} {m : Memory} (h : m.Lawful n) (hk : k < n) (b : Byte) :
    (m.write k b).Lawful n :=
  ⟨Memory.write_wf k b h.1, Memory.write_below b h.2 hk⟩

/-- The bytes of the 8 slots lie below 8,192. -/
theorem slotAddr_lt (n : SlotNo) {k : Nat} (hk : k < 1024) : slotAddr n k < 8192 := by
  have := n.isLt
  show 1024 * n.val + k < 8192
  omega

@[simp] theorem Pool.grantFill_data (p : Pool) (n : SlotNo) (src : Source) :
    (p.grantFill n src).data = p.data := by
  unfold Pool.grantFill; split <;> rfl
@[simp] theorem Pool.grantRead_data (p : Pool) (n : SlotNo) :
    (p.grantRead n).data = p.data := by
  unfold Pool.grantRead; split <;> rfl
@[simp] theorem Pool.grantMark_data (p : Pool) (n : SlotNo) :
    (p.grantMark n).data = p.data := by
  unfold Pool.grantMark; split <;> rfl
@[simp] theorem Pool.toFree_data (p : Pool) (st : SlotState) (n : SlotNo) :
    (p.toFree st n).data = p.data := by
  unfold Pool.toFree; split <;> rfl
@[simp] theorem Pool.queueFilled_data (p : Pool) (n : SlotNo) :
    (p.queueFilled n).data = p.data := by
  unfold Pool.queueFilled; split <;> rfl
@[simp] theorem Pool.requeue_data (p : Pool) (n : SlotNo) :
    (p.requeue n).data = p.data := by
  unfold Pool.requeue; split <;> rfl
@[simp] theorem Pool.headReturn_data (p : Pool) (n : SlotNo) :
    (p.headReturn n).data = p.data := by
  unfold Pool.headReturn; split <;> rfl
@[simp] theorem Pool.takeHead_data (p : Pool) :
    p.takeHead.data = p.data := by
  unfold Pool.takeHead; split <;> rfl
@[simp] theorem Pool.hold_data (p : Pool) (n : SlotNo) :
    (p.hold n).data = p.data := by
  unfold Pool.hold; split <;> rfl
@[simp] theorem Pool.toReadTail_data (p : Pool) (st : SlotState) (n : SlotNo) :
    (p.toReadTail st n).data = p.data := by
  unfold Pool.toReadTail; split <;> rfl
@[simp] theorem Pool.releaseHead_data (p : Pool) :
    p.releaseHead.data = p.data := by
  unfold Pool.releaseHead; split <;> rfl
@[simp] theorem Pool.replaceTail_data (p : Pool) (n : SlotNo) :
    (p.replaceTail n).data = p.data := by
  unfold Pool.replaceTail
  split
  · rfl
  · split <;> rfl

/-- The only change of the pool that writes a byte is an append, within its slot. -/
theorem PoolStep.data_cases {p q : Pool} (hs : PoolStep p q) :
    q.data = p.data ∨ ∃ n k b, k < 1024 ∧ q.data = p.data.write (slotAddr n k) b := by
  cases hs with
  | append n b =>
    unfold Pool.append
    split
    · next h => exact .inr ⟨n, _, b, h, rfl⟩
    · exact .inl rfl
  | edit | drain | tag | softReset => exact .inl rfl
  | _ => simp

theorem PoolStep.keeps_data {p q : Pool} (hs : PoolStep p q) (h : p.data.Lawful 8192) :
    q.data.Lawful 8192 := by
  obtain e | ⟨n, k, b, hk, e⟩ := hs.data_cases <;> rw [e]
  · exact h
  · exact h.write (slotAddr_lt n hk) b

theorem storesLawful_iff {s : State} :
    s.storesLawful ↔ s.pool.data.Lawful 8192 ∧ s.seq.listMem.Lawful 48 := by
  simp only [State.storesLawful, Memory.Lawful, and_assoc]

namespace Changes

variable {a s : State}

theorem keeps_listMem (h : Changes a s) (ha : a.seq.listMem.Lawful 48) :
    s.seq.listMem.Lawful 48 := by
  induction h with
  | seq _ same ih => exact same ▸ ih
  | list _ hk b ih => exact ih.write hk b
  | pinReset => exact ⟨rfl, nofun⟩
  | _ => assumption

/-! ## The result queue, the timing table and the stream port (R152, R170, R189) -/

/-- A result joins only where there is room. -/
theorem keeps_results (h : Changes a s) (ha : a.resultsLawful) : s.resultsLawful := by
  induction h with
  | host _ tail ih => exact tail.length_le.trans ih
  | join _ room joined =>
    rw [State.resultRoom, decide_eq_true_eq] at room
    simpa [joined] using room
  | pinReset => exact Nat.zero_le _
  | _ => assumption

end Changes

theorem timingClamp_range (i : Fin 10) (b : Byte) :
    timingLeast i ≤ timingClamp i b ∧ timingClamp i b ≤ timingGreatest i := by
  have order : timingLeast i ≤ timingGreatest i := by revert i; decide
  unfold timingClamp
  split
  · exact ⟨BitVec.le_refl _, order⟩
  · next low =>
    split
    · exact ⟨order, BitVec.le_refl _⟩
    · next high => exact ⟨BitVec.not_lt.mp low, BitVec.not_lt.mp high⟩

/-- An entry reads as the value last stored in it, and every other as before. -/
theorem Timing.get_set (t : Timing) (i j : Fin 10) (b : Byte) :
    (t.set i b).get j = if j = i then b else t.get j := by
  fin_cases i <;> fin_cases j <;> rfl

theorem Timing.lawful_reset : Timing.reset.lawful := by
  intro i
  fin_cases i <;> decide

theorem StreamStep.keeps_lawful {p q : StreamPort} (hs : StreamStep p q) (h : p.lawful) :
    q.lawful := by
  obtain ⟨reserve, strlen, divisor, fraction, acc, bits⟩ := h
  cases hs with
  | set q hr hl hd hf ha hb =>
    refine ⟨hr.elim (· ▸ reserve) id, hl.elim (· ▸ strlen) id, hd.elim (· ▸ divisor) id,
      hf.elim (· ▸ fraction) id, ?_, hb.elim (· ▸ bits) id⟩
    omega
  | interval =>
    unfold StreamPort.interval
    dsimp only
    split
    · exact ⟨reserve, strlen, divisor, fraction, by dsimp only; omega, bits⟩
    · exact ⟨reserve, strlen, divisor, fraction, by dsimp only; omega, bits⟩

theorem StreamPort.lawful_reset : StreamPort.reset.lawful := by decide

namespace Changes

variable {a s : State}

/-- The timing table takes only values clamped to their entry's range. -/
theorem keeps_timing (h : Changes a s) (ha : a.xp.timing.lawful) : s.xp.timing.lawful := by
  induction h with
  | xp _ step ih =>
    obtain e | ⟨i, b, e⟩ := step.1
    · exact e ▸ ih
    · intro j
      rw [State.setXp_xp, e, Timing.get_set]
      split
      · next same => exact same ▸ timingClamp_range j b
      · exact ih j
  | pinReset => exact Timing.lawful_reset
  | _ => assumption

theorem keeps_stream (h : Changes a s) (ha : a.stream.lawful) : s.stream.lawful := by
  induction h with
  | stream _ step ih => exact step.keeps_lawful ih
  | pinReset => exact StreamPort.lawful_reset
  | _ => assumption

end Changes

/-- Settles O59: each of the four laws is kept by every kind of change. -/
theorem storesAndRangesStayLawful : Obligations.StoresAndRangesStayLawful := by
  intro s t hstep
  obtain ⟨l, changes⟩ := changes_of_step hstep
  refine ⟨fun h => ?_, changes.keeps_results, changes.keeps_timing, changes.keeps_stream⟩
  obtain ⟨data, list⟩ := storesLawful_iff.mp h
  exact storesLawful_iff.mpr ⟨changes.keeps_pool (P := fun p => p.data.Lawful 8192) ⟨rfl, nofun⟩
    PoolStep.keeps_data data, changes.keeps_listMem list⟩

/-- Settles O5: each law holds of the reset state. -/
theorem resetStateIsLawful : Obligations.ResetStateIsLawful where
  stores := ⟨rfl, nofun, rfl, nofun⟩
  results := Nat.zero_le _
  queues := Pool.queuesLawful_reset []
  position := by decide
  timing := Timing.lawful_reset
  gates := ⟨nofun, nofun, nofun⟩
  stream := StreamPort.lawful_reset

end Sys2Proof.Machine
end

section
/-! SUPPORT. The resets, the counts and the slot record window, and the commands that fill, queue and drain
slots (R17, R22 to R44, R148, R183 to R188, R194). -/

namespace Sys2Proof.Machine

/-! ## Pin reset (R167, R194) -/

/-- Settles O3: the state after PIN_RESET written out block by block. -/
theorem pinResetSetsEveryBlock : Obligations.PinResetSetsEveryBlock := by
  intro lv s
  have motion : Motion.ofLevels lv = if lv.present = false then .noCartridge
      else if lv.ready = false then .notReady else .stopped := by
    simp [Motion.ofLevels]
  have released : ∀ x : Transport, x.motion = Motion.ofLevels lv → x.motionLine = false ∧
      x.reverseLine = false ∧ x.fastLine = false ∧ x.unloadLine = false := by
    intro x hx
    have rest : x.motion ∈ [.noCartridge, .notReady, .stopped] := by
      rw [hx, motion]
      split
      · simp
      · split <;> simp
    simp only [List.mem_cons, List.not_mem_nil, or_false] at rest
    rcases rest with h | h | h <;>
      simp [Transport.motionLine, Transport.reverseLine, Transport.fastLine, Transport.unloadLine, h]
  obtain ⟨line1, line2, line3, line4⟩ := released (.reset lv) rfl
  refine ⟨_, rfl, rfl, rfl, fun k => rfl, rfl, rfl, rfl, rfl, rfl, ?_, line1, line2, line3, line4,
    rfl, rfl, rfl, rfl, by simp [State.irqAsserted, State.reset, HostPort.reset]⟩
  rw [← motion]
  rfl

/-! ## Counts and position (R34, R39, R148) -/

theorem Pool.fillCount_of_hostFill {p : Pool} {n : SlotNo} (h : p.hostFill = some n) :
    p.fillCount = (p.get n).length := by
  simp [Pool.fillCount, h]

/-- The low-byte reads latch what their layouts give. -/
theorem Position.pos0_eq (p : Position) :
    p.pos0 = BitVec.ofNat 8 (p.zone.code + if p.block.isSome then 8 else 0) := by
  unfold Position.pos0 loByte
  cases p.block.isSome <;> rfl

/-- Settles O8: each of the three reads, with `fillCount`, `drainCount` and `pos0` as the layout gives
them. -/
theorem countAndPositionReads : Obligations.CountAndPositionReads := by
  refine ⟨fun s => rfl, fun s => rfl, fun s => ⟨fun n h => Pool.fillCount_of_hostFill h,
    fun h => by simp [Pool.fillCount, h], fun n q h => by simp [Pool.drainCount, h, State.slot],
    fun h => by simp [Pool.drainCount, h]⟩, rfl, fun s => ?_⟩
  rw [← Position.pos0_eq]
  rfl

/-! ## Searches in the pool -/

theorem Pool.find_eq_none {p : Pool} {t : SlotRecord → Bool} :
    p.find t = none ↔ ∀ n, t (p.get n) = false := by
  simp [Pool.find, mem_allSlots]

theorem Pool.find_eq_some {p : Pool} {t : SlotRecord → Bool} {n : SlotNo} (h : t (p.get n) = true)
    (hm : ∀ m, m < n → t (p.get m) = false) : p.find t = some n := by
  have order : ∀ n : SlotNo, allSlots = allSlots.take n.val ++ n :: allSlots.drop (n.val + 1) ∧
      ∀ m ∈ allSlots.take n.val, m < n := by decide
  exact List.find?_eq_some_iff_append.mpr
    ⟨h, _, _, (order n).1, fun m hlow => by simp [hm m ((order n).2 m hlow)]⟩

/-- Where no record met a test, one that does, put in a slot's place, is found there. -/
theorem Pool.find_put {p : Pool} {t : SlotRecord → Bool} {n : SlotNo} {r : SlotRecord}
    (h : p.find t = none) (hr : t r = true) : (p.put n r).find t = some n :=
  Pool.find_eq_some (by simpa [Pool.get_put] using hr) fun m hm => by
    rw [Pool.get_put, if_neg hm.ne]
    exact Pool.find_eq_none.mp h m

/-! ## CLAIM (R22, R33) -/

/-- A FREE slot is granted for filling. -/
theorem Pool.grantFill_eq {p : Pool} {n : SlotNo} (src : Source) (h : (p.get n).state = .free) :
    p.grantFill n src = p.put n (.filling src) := if_pos h

theorem State.claim_granted {s : State} {n : SlotNo} (ho : s.pool.hostFill = none)
    (hn : (s.slot n).state = .free) (hm : ∀ m, m < n → (s.slot m).state ≠ .free) :
    s.claim = (s.setPool (s.pool.put n (.filling .host))).answer .accepted := by
  simp [State.claim, ho, Pool.lowestFree_eq_some hn hm, Pool.grantFill_eq .host hn]

/-- Settles O18: the three ways of CLAIM, and what the pool then shows of the slot granted. -/
theorem claimOpensTheLowestFreeSlot : Obligations.ClaimOpensTheLowestFreeSlot := by
  refine ⟨?fillOpen, ?noSlot, ?granted, ?shown⟩
  case fillOpen =>
    intro s h
    have filled : s.touch.claim = s.touch.answer .fillOpen :=
      if_pos (Option.isSome_iff_ne_none.mpr h)
    exact congrArg Host.Outcome.next filled
  case noSlot =>
    intro s ho hn
    have refused : s.touch.claim = s.touch.answer .noSlot := by
      simp [State.claim, ho, Pool.lowestFree_eq_none hn]
    exact congrArg Host.Outcome.next refused
  case granted =>
    intro s n ho hn hm
    exact congrArg Host.Outcome.next (State.claim_granted (s := s.touch) ho hn hm)
  case shown =>
    intro s n ho hn hm
    have fill : (s.pool.put n (.filling .host)).hostFill = some n := Pool.find_put ho rfl
    refine ⟨_, congrArg Host.Outcome.next (State.claim_granted (s := s.touch) ho hn hm), fill, ?_, ?_⟩
    · show (s.pool.put n (.filling .host)).fillCount = 0
      rw [Pool.fillCount_of_hostFill fill, Pool.get_put, if_pos rfl]
      rfl
    · show fillByte (s.pool.put n (.filling .host)).hostFill = _
      rw [fill, Nat.add_comm]
      rfl

/-! ## DATA (R34, R39) -/

/-- A byte appended to a slot with room stands at the slot's length, which advances by one. -/
theorem Pool.append_eq {p : Pool} {n : SlotNo} (b : Byte) (h : (p.get n).length < 1024) :
    p.append n b = { p.put n { p.get n with length := (p.get n).length + 1 } with
      data := p.data.write (slotAddr n (p.get n).length) b } := if_pos h

/-- Settles O19: an append, or DROPPED_WRITE. -/
theorem dataWriteFillsTheHostSlot : Obligations.DataWriteFillsTheHostSlot := by
  refine ⟨?stored, ?noSlot, ?full⟩
  case stored =>
    intro b s n hn hl hw
    have stored : s.touch.writeData b = s.touch.setPool (s.pool.append n b) := by
      simp only [State.writeData, State.touch_pool, hn]
      exact if_pos hl
    rw [Pool.append_eq b hl] at stored
    exact ⟨_, congrArg Host.Outcome.next stored, rfl, Memory.read_write_same b hw,
      fun k hk => Memory.read_write_other b hw hk⟩
  case noSlot =>
    intro b s hn
    have dropped : s.touch.writeData b = s.touch.stick .droppedWrite := by
      simp only [State.writeData, State.touch_pool, hn]
    exact congrArg Host.Outcome.next dropped
  case full =>
    intro b s n hn hl
    have dropped : s.touch.writeData b = s.touch.stick .droppedWrite := by
      simp only [State.writeData, State.touch_pool, hn]
      exact if_neg (Nat.not_lt.mpr hl)
    exact congrArg Host.Outcome.next dropped

/-- Settles O22: the head's byte at the drain cursor, or EMPTY_READ. -/
theorem dataReadDrainsTheHead : Obligations.DataReadDrainsTheHead := by
  refine ⟨?byte, ?empty, ?drained⟩
  case byte =>
    intro s n q hq hd
    have read : s.touch.readData = (s.touch.setPool { s.pool with drain := s.pool.drain + 1 }).drive
        (s.pool.data.read (slotAddr n s.pool.drain)) := by
      simp only [State.readData, State.touch_pool, hq]
      exact if_pos hd
    exact congrArg Host.Outcome.next read
  case empty =>
    intro s hq
    have read : s.touch.readData = (s.touch.drive 0).stick .emptyRead := by
      simp only [State.readData, State.touch_pool, hq]
    exact congrArg Host.Outcome.next read
  case drained =>
    intro s n q hq hd
    have read : s.touch.readData = (s.touch.drive 0).stick .emptyRead := by
      simp only [State.readData, State.touch_pool, hq]
      exact if_neg (Nat.not_lt.mpr hd)
    exact congrArg Host.Outcome.next read

end Sys2Proof.Machine
end

section
/-! SUPPORT. The slot record window (R17, R43, R183, R188). -/

namespace Sys2Proof.Machine

/-! ## The pool summary (R43) -/

/-- The bits of a sum of different powers of two. -/
theorem testBit_sum_two_pow (h : Nat → Bool) (k n : Nat) :
    ((List.range k).map (fun i => if h i then 2 ^ i else 0)).sum.testBit n =
      (decide (n < k) && h n) := by
  have below : ∀ k, ((List.range k).map (fun i => if h i then 2 ^ i else 0)).sum < 2 ^ k := by
    intro k
    induction k with
    | zero => simp
    | succ k ih =>
      simp only [List.range_succ, List.map_append, List.map_cons, List.map_nil, List.sum_append,
        List.sum_cons, List.sum_nil]
      split <;> omega
  induction k with
  | zero => simp
  | succ k ih =>
    simp only [List.range_succ, List.map_append, List.map_cons, List.map_nil, List.sum_append,
      List.sum_cons, List.sum_nil, Nat.add_zero]
    by_cases hk : h k
    · have disjoint := Nat.two_pow_add_eq_or_of_lt (below k) 1
      rw [Nat.mul_one] at disjoint
      rw [if_pos hk, Nat.add_comm, disjoint, Nat.testBit_or, ih, Nat.testBit_two_pow]
      by_cases e : k = n
      · simp [e ▸ hk, e]
      · have : decide (n < k + 1) = decide (n < k) := by simp; omega
        rw [this]
        simp [e]
    · rw [if_neg hk, Nat.add_zero, ih]
      by_cases e : n = k
      · simp [e, hk]
      · have : decide (n < k + 1) = decide (n < k) := by simp; omega
        rw [this]

theorem Pool.heldByte_bit (p : Pool) (n : SlotNo) :
    p.heldByte.getLsbD n.val = true ↔ (p.get n).state = .held := by
  have sum : (allSlots.map (fun n => if (p.get n).state = .held then 2 ^ n.val else 0)).sum =
      ((List.range 8).map (fun i => if (if hi : i < 8 then
        decide ((p.get ⟨i, hi⟩).state = .held) else false) then 2 ^ i else 0)).sum := by
    simp [allSlots, List.range, List.range.loop]
  rw [Pool.heldByte, loByte, sum, BitVec.getLsbD_ofNat, testBit_sum_two_pow]
  simp

theorem queueHalf_eq (q : List SlotNo) (i : Nat) :
    queueHalf q i = ((q.map (·.val))[i]?).getD 15 := by
  simp [queueHalf]

/-! ## The bytes of a record (R17) -/

theorem SlotRecord.bytes_eq (r : SlotRecord) : (List.range 16).map r.byte =
    [ BitVec.ofNat 8 (r.state.code + 8 * sourceCode r.source +
        32 * (if r.kind = some .mark then 1 else 0) + 64 * r.tag.isSome.toNat),
      r.tag.getD 0, BitVec.ofNat 8 r.length, BitVec.ofNat 8 (r.length / 256),
      BitVec.ofNat 8 (r.discontinuity.toNat + 2 * r.rewritten.toNat + 4 * writeClassCode r.wclass),
      BitVec.ofNat 8 (r.read.lrcFail.toNat + 2 * r.read.crcFail.toNat +
        4 * r.read.lengthMismatch.toNat + 8 * r.read.overlength.toNat +
        16 * r.read.headerBad.toNat + 32 * readClassCode r.read.cls),
      BitVec.ofNat 8 (r.read.sequenceBreak.toNat + 2 * r.read.duplicate.toNat +
        4 * r.read.supersedes.toNat + 8 * r.read.hdrStream.toNat +
        16 * r.read.hdrDiscontinuity.toNat + 32 * r.read.hdrRewritten.toNat),
      BitVec.ofNat 8 r.read.fallback, BitVec.ofNat 8 (r.read.fallback / 256),
      BitVec.ofNat 8 r.read.errors, BitVec.ofNat 8 (r.read.errors / 256), 0, 0, 0, 0, 0 ] := by
  have mark : (r.kind == some .mark).toNat = if r.kind = some .mark then 1 else 0 := by
    by_cases h : r.kind = some .mark <;> simp [h]
  rw [← mark]
  rfl

/-- The indexes of no two-byte field. -/
theorem field_none {ix : Fin 16} (h : ix ∉ ([2, 3, 7, 8, 9, 10] : List (Fin 16))) :
    lowField ix.val = none ∧ highField ix.val = none := by
  revert ix; decide

/-- The index of a field's low byte, and of the high byte after it. -/
theorem field_low {ix : Fin 16} {f : Fin 3}
    (h : (ix, f) ∈ ([(2, 0), (7, 1), (9, 2)] : List (Fin 16 × Fin 3))) :
    lowField ix.val = some f ∧ highField ix.val = none ∧
      (ix + 1, f) ∈ ([(3, 0), (8, 1), (10, 2)] : List (Fin 16 × Fin 3)) ∧
      (ix + 1).val = ix.val + 1 := by
  revert ix f; decide

theorem field_high {ix : Fin 16} {f : Fin 3}
    (h : (ix, f) ∈ ([(3, 0), (8, 1), (10, 2)] : List (Fin 16 × Fin 3))) :
    lowField ix.val = none ∧ highField ix.val = some f := by
  revert ix f; decide

/-- The byte at the index of a field's high byte. -/
theorem SlotRecord.byte_high {r : SlotRecord} {k : Nat} {f : Fin 3} (h : highField k = some f) :
    r.byte k = hiByte (r.field f) := by
  unfold highField at h
  split at h <;> cases h <;> rfl

/-! ## Reads through the window (R183, R188) -/

namespace State

variable {s : State} {n : SlotNo} {f : Fin 3}

/-- A read of a slot's record: the field's latch is loaded at its low byte, the index advances, and the
byte is driven. -/
theorem readSlotrec_slot (h : s.host.slotSel.val = n.val) :
    s.readSlotrec = ((s.latchSlot n s.host.slotIx.val).setHost
      { (s.latchSlot n s.host.slotIx.val).host with
        slotIx := (s.latchSlot n s.host.slotIx.val).host.slotIx + 1 }).drive
      (s.slotByte n s.host.slotIx.val) := by
  have lt : s.host.slotSel.val < 8 := h ▸ n.isLt
  have slot : (⟨s.host.slotSel.val, lt⟩ : SlotNo) = n := Fin.ext h
  simp only [State.readSlotrec, dif_pos lt, slot]

theorem exec_slotrecRead_plain (h : s.host.slotSel.val = n.val)
    (hi : s.host.slotIx ∉ ([2, 3, 7, 8, 9, 10] : List (Fin 16))) :
    exec .slotrecRead s = .next { s with host :=
      { s.host.drove ((s.slot n).byte s.host.slotIx.val) with slotIx := s.host.slotIx + 1 } } := by
  obtain ⟨low, high⟩ := field_none hi
  show Host.Outcome.next s.touch.readSlotrec = _
  rw [readSlotrec_slot (s := s.touch) h, State.touch_host_slotIx, State.latchSlot, low,
    State.slotByte, high]
  rfl

theorem exec_slotrecRead_low (h : s.host.slotSel.val = n.val)
    (hi : (s.host.slotIx, f) ∈ ([(2, 0), (7, 1), (9, 2)] : List (Fin 16 × Fin 3))) :
    exec .slotrecRead s = .next { s with host :=
      { s.host.drove ((s.slot n).byte s.host.slotIx.val) with
        slotIx := s.host.slotIx + 1
        slotLatch := s.host.slotLatch.set (3 * n.val + f.val)
          (.load ((s.slot n).byte (s.host.slotIx.val + 1))) } } := by
  obtain ⟨low, high, next, val⟩ := field_low hi
  have byte : (s.slot n).byte (s.host.slotIx.val + 1) = hiByte ((s.slot n).field f) :=
    SlotRecord.byte_high (val ▸ (field_high next).2)
  show Host.Outcome.next s.touch.readSlotrec = _
  rw [readSlotrec_slot (s := s.touch) h, State.touch_host_slotIx, State.latchSlot, low,
    State.slotByte, high]
  simp only [byte]
  rfl

theorem exec_slotrecRead_high (h : s.host.slotSel.val = n.val)
    (hi : (s.host.slotIx, f) ∈ ([(3, 0), (8, 1), (10, 2)] : List (Fin 16 × Fin 3))) :
    exec .slotrecRead s = .next { s with host :=
      { s.host.drove (if s.host.slotLatch[3 * n.val + f.val].loaded
          then s.host.slotLatch[3 * n.val + f.val].value
          else (s.slot n).byte s.host.slotIx.val) with
        slotIx := s.host.slotIx + 1 } } := by
  obtain ⟨low, high⟩ := field_high hi
  have byte := SlotRecord.byte_high (r := s.slot n) high
  show Host.Outcome.next s.touch.readSlotrec = _
  rw [readSlotrec_slot (s := s.touch) h, State.touch_host_slotIx, State.latchSlot, low,
    State.slotByte, high]
  simp only [byte]
  rfl

/-- Two reads from a low byte on answer the two bytes of one moment. -/
theorem exec_slotrecRead_pair (h : s.host.slotSel.val = n.val)
    (hi : s.host.slotIx ∈ ([2, 7, 9] : List (Fin 16))) :
    ∃ t u, exec .slotrecRead s = .next t ∧ exec .slotrecRead t = .next u ∧
      t.host.busOut = (s.slot n).byte s.host.slotIx.val ∧
      t.host.slotIx = s.host.slotIx + 1 ∧
      u.host.busOut = (s.slot n).byte (s.host.slotIx.val + 1) ∧
      u.host.slotIx = s.host.slotIx + 2 ∧ u.pool = s.pool ∧ u.seq = s.seq := by
  obtain ⟨f, hf⟩ : ∃ f, (s.host.slotIx, f) ∈ ([(2, 0), (7, 1), (9, 2)] : List (Fin 16 × Fin 3)) := by
    revert hi; generalize s.host.slotIx = ix; revert ix; decide
  obtain ⟨-, -, next, -⟩ := field_low hf
  obtain ⟨t, low, sel, ix, bus, latch, pool, seq⟩ : ∃ t, exec .slotrecRead s = .next t ∧
      t.host.slotSel = s.host.slotSel ∧ t.host.slotIx = s.host.slotIx + 1 ∧
      t.host.busOut = (s.slot n).byte s.host.slotIx.val ∧
      t.host.slotLatch[3 * n.val + f.val] = .load ((s.slot n).byte (s.host.slotIx.val + 1)) ∧
      t.pool = s.pool ∧ t.seq = s.seq :=
    ⟨_, exec_slotrecRead_low h hf, rfl, rfl, rfl, Vector.getElem_set_self _, rfl, rfl⟩
  have high := exec_slotrecRead_high (s := t) (n := n) (f := f) (sel ▸ h) (ix ▸ next)
  simp only [latch, ix] at high
  refine ⟨t, _, low, high, bus, ix, rfl, ?_, pool, seq⟩
  show s.host.slotIx + 1 + 1 = _
  rw [add_assoc]
  rfl

end State

theorem exec_slotptrWrite (b : Byte) (s : State) (sel : Fin 9) (ix : Fin 16)
    (hs : sel.val = min (b.toNat / 16) 8) (hi : ix.val = b.toNat % 16) :
    exec (.slotptrWrite b) s = .next { s with
      host := ({ s.host.accessed with slotSel := sel, slotIx := ix } : HostPort).stuck
        (decide (8 < b.toNat / 16)) .clamped } := by
  have high : (b.extractLsb' 4 4).toNat = b.toNat / 16 := by
    have := b.isLt
    simp [BitVec.extractLsb'_toNat, Nat.shiftRight_eq_div_pow]
    omega
  have low : (b.extractLsb' 0 4).toNat = b.toNat % 16 := by simp [BitVec.extractLsb'_toNat]
  have sel' : (⟨min (b.toNat / 16) 8, by omega⟩ : Fin 9) = sel := Fin.ext hs.symm
  have ix' : (b.extractLsb' 0 4).toFin = ix := Fin.ext (by rw [hi, ← low]; rfl)
  show Host.Outcome.next (s.touch.storeSlotptr b) = _
  simp only [State.storeSlotptr, high, sel', ix', State.stickIf, HostPort.stuck]
  split <;> rfl

/-- Settles O10: the codes, the layouts, and the reads of the window by the kind of the byte's index. -/
theorem slotRecordWindow : Obligations.SlotRecordWindow := by
  refine ⟨⟨rfl, rfl, rfl, rfl⟩, SlotRecord.bytes_eq, fun p => ⟨rfl, ?fills, ?queues,
    p.heldByte_bit, rfl, rfl⟩, exec_slotptrWrite, fun s h => ?summary,
    fun s n h hi => State.exec_slotrecRead_plain h hi,
    fun s n f h hi => State.exec_slotrecRead_low h hi,
    fun s n f h hi => State.exec_slotrecRead_high h hi,
    fun s n h hi => State.exec_slotrecRead_pair h hi⟩
  case fills =>
    intro k o hko
    have shown : p.summary k = fillByte o := by
      rcases List.mem_pair.mp hko with h | h <;> cases h <;> rfl
    rw [shown]
    exact ⟨fun h => by rw [h]; rfl, fun n h => by rw [h]; rfl⟩
  case queues =>
    intro k q hkq
    have shown : p.summary k = loByte q.length ∧ ∀ j < 4, p.summary (k + 1 + j) = queueByte q j := by
      rcases List.mem_pair.mp hkq with h | h <;> cases h <;>
        exact ⟨rfl, fun j hj => by interval_cases j <;> rfl⟩
    refine ⟨shown.1, fun j hj => ?_⟩
    rw [shown.2 j hj, queueByte, queueHalf_eq, queueHalf_eq]
    rfl
  case summary =>
    have out : ¬ s.touch.host.slotSel.val < 8 := by simp [h]
    show Host.Outcome.next s.touch.readSlotrec = _
    simp only [State.readSlotrec, dif_neg out]
    rfl

end Sys2Proof.Machine
end

section
/-! SUPPORT. How forward motion is asked for, how a unit begins, and how a list ends: what the pool's and
the sequencer's commands share (R26, R48, R50, R64 to R66, R98, R153 to R156). -/

namespace Sys2Proof.Machine

namespace State

variable {s t u v : State} {n m : SlotNo} {o : EntryOutcome} {c : EndCause}

/-! ## The work taken up (R128) -/

/-- Taking up work changes no more of the transport than the blank timer. -/
theorem setWork_xp (w : Work) (s : State) :
    ∃ b, (s.setWork w).xp = { s.xp with blankTimer := b } := by
  unfold State.setWork State.startBlank
  split <;> exact ⟨_, rfl⟩

@[simp] theorem setWork_timing (w : Work) (s : State) : (s.setWork w).xp.timing = s.xp.timing := by
  obtain ⟨b, e⟩ := setWork_xp w s
  rw [e]
@[simp] theorem setWork_lingerTimer (w : Work) (s : State) :
    (s.setWork w).xp.lingerTimer = s.xp.lingerTimer := by
  obtain ⟨b, e⟩ := setWork_xp w s
  rw [e]
@[simp] theorem setWork_deferred (w : Work) (s : State) :
    (s.setWork w).xp.deferred = s.xp.deferred := by
  obtain ⟨b, e⟩ := setWork_xp w s
  rw [e]

/-! ## Forward motion (R153, R154, R156) -/

/-- From `s`, a FORWARD request has been taken in `t`: a tape in STOPPED starts, and a tape that runs
forward goes on without a linger. -/
structure ForwardTaken (s t : State) : Prop where
  motion : t.xp.motion = if s.xp.motion = .stopped then .starting else .running
  dir : t.xp.dir = .forward
  linger : t.xp.lingerTimer = none
  ramp : s.xp.motion = .stopped → t.xp.rampTimer = some s.xp.timing.startRamp
  deferred : t.xp.deferred = s.xp.deferred
  timing : t.xp.timing = s.xp.timing
  levels : t.xp.levels = s.xp.levels
  wch : s.xp.motion = .running → t.wch = s.wch
  phase : t.wch.phase = s.wch.phase
  rch : t.rch = s.rch
  seq : t.seq = s.seq
  pool : t.pool = s.pool
  host : t.host = s.host
  pos : t.pos = s.pos
  stream : t.stream = s.stream
  capture : t.capture = s.capture
  pending : t.pending = s.pending

/-- The tape is in STOPPED, or runs forward. -/
def MayForward (s : State) : Prop :=
  s.xp.motion = .stopped ∨ (s.xp.motion = .running ∧ s.xp.dir = .forward)

theorem requestDir_forward (he : s.xp.levels.eom = false) (hm : s.MayForward) :
    ∃ t, s.requestDir .forward = (t, .taken) ∧ s.ForwardTaken t := by
  rcases hm with hm | ⟨hm, hd⟩
  · have start : s.requestDir .forward = (s.startMotion .forward, .taken) := by
      simp [State.requestDir, he, State.takeDir, hm]
    refine ⟨_, start, ?_⟩
    constructor <;>
      simp [State.startMotion, State.enterMotion, State.setXp, State.dropGates, State.setWch, hm]
  · refine ⟨_, requestDir_running hm hd (fun _ => he) nofun, ?_⟩
    constructor <;> simp [hm, hd]

/-! ## READ units (R21, R22, R50, R134) -/

/-- A READ unit that holds its slot goes on forward. -/
theorem readGoesOn_taken (he : s.xp.levels.eom = false) (hm : s.MayForward) :
    ∃ t, s.readGoesOn n = (t, none) ∧
      ForwardTaken ((s.takeFramePeriod).setWork (.read n)) t := by
  obtain ⟨t, request, taken⟩ := requestDir_forward
    (s := (s.takeFramePeriod).setWork (.read n)) (by simpa using he) (by simpa [MayForward] using hm)
  exact ⟨t, by rw [State.readGoesOn, request]; rfl, taken⟩

/-- From `s`, a READ unit has taken up the slot `n` in `t` and goes on forward. -/
structure ReadBegun (s : State) (n : SlotNo) (t : State) : Prop where
  motion : t.xp.motion = if s.xp.motion = .stopped then .starting else .running
  dir : t.xp.dir = .forward
  linger : t.xp.lingerTimer = none
  ramp : s.xp.motion = .stopped → t.xp.rampTimer = some s.xp.timing.startRamp
  timing : t.xp.timing = s.xp.timing
  levels : t.xp.levels = s.xp.levels
  seq : t.seq = { s.seq with work := .read n }
  pool : t.pool = s.pool
  host : t.host = s.host
  pos : t.pos = s.pos
  stream : t.stream = s.stream
  capture : t.capture = s.capture
  pending : t.pending = s.pending

theorem readGoesOn_begun (he : s.xp.levels.eom = false) (hm : s.MayForward) :
    ∃ t, s.readGoesOn n = (t, none) ∧ ReadBegun s n t := by
  obtain ⟨t, goes, taken⟩ := readGoesOn_taken (n := n) he hm
  refine ⟨t, goes, ?_⟩
  constructor
  case dir => exact taken.dir
  case linger => exact taken.linger
  case motion => simpa using taken.motion
  case ramp => simpa using taken.ramp
  case timing => simpa using taken.timing
  case levels => simpa using taken.levels
  case seq => simpa [State.takeFramePeriod] using taken.seq
  case pool => simpa [State.takeFramePeriod] using taken.pool
  case host => simpa [State.takeFramePeriod] using taken.host
  case pos => simpa [State.takeFramePeriod] using taken.pos
  case stream => simpa [State.takeFramePeriod] using taken.stream
  case capture => simpa [State.takeFramePeriod] using taken.capture
  case pending => simpa [State.takeFramePeriod] using taken.pending

end State

/-! ## Slots that change hands -/

theorem Pool.grantRead_eq {p : Pool} {n : SlotNo} (h : (p.get n).state = .free) :
    p.grantRead n = p.put n .claimed := if_pos h

theorem Pool.grantMark_eq {p : Pool} {n : SlotNo} (h : (p.get n).state = .free) :
    p.grantMark n = { p.put n (.queuedMark p.tag) with
      writeQ := p.writeQ ++ [n], tag := p.tag + 1 } := if_pos h

theorem Pool.queueFilled_eq {p : Pool} {n : SlotNo} (h : (p.get n).state = .filling) :
    p.queueFilled n = { p.put n { p.get n with state := .queued, tag := some p.tag } with
      writeQ := p.writeQ ++ [n], tag := p.tag + 1 } := if_pos h

theorem Pool.requeue_eq {p : Pool} {n : SlotNo} (h : (p.get n).state = .held) :
    p.requeue n = { p.put n { p.get n with state := .queued } with
      writeQ := p.writeQ ++ [n] } := if_pos h

theorem Pool.headReturn_eq {p : Pool} {n : SlotNo} (h : (p.get n).state = .active) :
    p.headReturn n = { p.put n { p.get n with state := .queued } with writeQ := n :: p.writeQ } :=
  if_pos h

theorem Pool.toFree_eq {p : Pool} {n : SlotNo} {st : SlotState} (h : (p.get n).state = st)
    (hq : st ≠ .queued) (hr : st ≠ .ready) : p.toFree st n = p.put n .free := if_pos ⟨h, hq, hr⟩

theorem Pool.toReadTail_eq {p : Pool} {n : SlotNo} {st : SlotState} (h : (p.get n).state = st)
    (hq : st ≠ .queued) (hr : st ≠ .ready) :
    p.toReadTail st n = { p.put n { p.get n with state := .ready } with
      readQ := p.readQ ++ [n], drain := if p.readQ = [] then 0 else p.drain } := if_pos ⟨h, hq, hr⟩

end Sys2Proof.Machine
end

section
/-! SUPPORT. The pool's commands that queue, free and move slots, and the units that wait for one (R22 to
R42). -/

namespace Sys2Proof.Machine

namespace State

variable {s t : State} {n : SlotNo}

/-! ## Waiting units (R23, R26, R29) -/

/-- With no WRITE unit waiting the write queue's head stays. -/
theorem serveHead_of_work (h : s.seq.work ≠ .waitHead) : s.serveHead = s := by
  simp [State.serveHead, State.waitsForHead, h]

/-- With no READ unit waiting nothing is granted. -/
theorem serveClaim_of_work (h : s.seq.work ≠ .waitSlot) : s.serveClaim = s := by
  simp [State.serveClaim, State.waitsForSlot, h]

/-- A waiting READ unit is granted the lowest-numbered FREE slot. -/
theorem serveClaim_granted (hs : s.seq.state = .running) (hw : s.seq.work = .waitSlot)
    (hn : (s.slot n).state = .free) (hm : ∀ m, m < n → (s.slot m).state ≠ .free) :
    s.serveClaim = carryOut ((s.grantClaim n).readGoesOn n) := by
  simp [State.serveClaim, State.waitsForSlot, hs, hw, Pool.lowestFree_eq_some hn hm]

end State

open State in
/-- Settles O24: `readGoesOn` from the state with the slot granted. -/
theorem readClaimIsServed : Obligations.ReadClaimIsServed := by
  refine ⟨?granted, ?noSlot, fun s h => congrArg Host.Outcome.next (serveClaim_of_work h)⟩
  case granted =>
    intro s n hs hw hn hm motion eom
    obtain ⟨t, goes, begun⟩ := readGoesOn_begun (s := s.grantClaim n) (n := n) eom (.inl motion)
    have served : s.serveClaim = t := by rw [serveClaim_granted hs hw hn hm, goes]; rfl
    refine ⟨t, congrArg Host.Outcome.next served, ?_, begun.seq, ?_, begun.dir, begun.ramp motion,
      begun.timing, begun.levels, begun.pos, begun.host, begun.stream, begun.capture, begun.pending⟩
    · rw [begun.pool]
      exact Pool.grantRead_eq hn
    · rw [begun.motion]
      exact if_pos motion
  case noSlot =>
    intro s h
    have none : s.serveClaim = s := by
      simp [State.serveClaim, Pool.lowestFree_eq_none h]
    exact congrArg Host.Outcome.next none

/-! ## QUEUE, QUEUE_MARK and TAG (R25, R26, R35, R36) -/

namespace State

variable {s : State} {n : SlotNo}

theorem queueFill_queued (hn : s.pool.hostFill = some n) (hl : (s.slot n).length ≠ 0) :
    s.queueFill = ((s.setPool { s.pool.put n { s.slot n with
        state := .queued, tag := some s.pool.tag } with
      writeQ := s.pool.writeQ ++ [n], tag := s.pool.tag + 1 }).answer .accepted).serveHead := by
  simp only [State.queueFill, hn, if_neg hl, Pool.queueFilled_eq (Pool.hostFill_state hn).1]
  rfl

theorem queueMark_queued (hn : (s.slot n).state = .free)
    (hm : ∀ m, m < n → (s.slot m).state ≠ .free) :
    s.queueMark = ((s.setPool { s.pool.put n (.queuedMark s.pool.tag) with
      writeQ := s.pool.writeQ ++ [n], tag := s.pool.tag + 1 }).answer .accepted).serveHead := by
  simp only [State.queueMark, Pool.lowestFree_eq_some hn hm, Pool.grantMark_eq hn]

end State

open State in
/-- Settles O20: the refusals, the pool with the slot at the tail, and what a waiting WRITE unit makes of
it. -/
theorem queueingTakesTags : Obligations.QueueingTakesTags := by
  refine ⟨?noFill, ?emptyFill, ?queued, ?noSlot, ?marked, ?queuedTaken, ?markedTaken, ?stored,
    ?busy⟩
  case noFill =>
    intro s h
    have refused : s.touch.queueFill = s.touch.answer .emptyFill := by
      simp only [State.queueFill, State.touch_pool, h]
    exact congrArg Host.Outcome.next refused
  case emptyFill =>
    intro s n h hl
    have refused : s.touch.queueFill = s.touch.answer .emptyFill := by
      simp only [State.queueFill, State.touch_pool, h]
      exact if_pos hl
    exact congrArg Host.Outcome.next refused
  case queued =>
    intro s n h hl hw
    exact congrArg Host.Outcome.next
      ((queueFill_queued (s := s.touch) h hl).trans (serveHead_of_work hw))
  case noSlot =>
    intro s h
    have refused : s.touch.queueMark = s.touch.answer .noSlot := by
      simp only [State.queueMark, State.touch_pool, Pool.lowestFree_eq_none h]
    exact congrArg Host.Outcome.next refused
  case marked =>
    intro s n hn hm hw
    exact congrArg Host.Outcome.next
      ((queueMark_queued (s := s.touch) hn hm).trans (serveHead_of_work hw))
  case queuedTaken =>
    intro s n h hl _
    exact congrArg Host.Outcome.next (queueFill_queued (s := s.touch) h hl)
  case markedTaken =>
    intro s n hn hm _
    exact congrArg Host.Outcome.next (queueMark_queued (s := s.touch) hn hm)
  case stored =>
    intro b s h
    exact congrArg Host.Outcome.next (if_pos h)
  case busy =>
    intro b s h
    exact congrArg Host.Outcome.next (if_neg h)

/-! ## Held slots (R30, R32, R41, R42) -/

namespace State

variable {s : State} {n : SlotNo}

theorem namedHeld_eq_some (hc : s.host.cmdarg.toNat = n.val) (hn : (s.slot n).state = .held) :
    s.namedHeld = some n := by
  have lt : s.host.cmdarg.toNat < 8 := hc ▸ n.isLt
  have slot : (⟨s.host.cmdarg.toNat, lt⟩ : SlotNo) = n := Fin.ext hc
  simp only [State.namedHeld, dif_pos lt, slot, if_pos hn]

theorem namedHeld_eq_none
    (h : ∀ n : SlotNo, s.host.cmdarg.toNat = n.val → (s.slot n).state ≠ .held) :
    s.namedHeld = none := by
  unfold State.namedHeld
  split
  · next lt => exact if_neg (h ⟨_, lt⟩ rfl)
  · rfl

theorem requeueHeld_queued (hc : s.host.cmdarg.toNat = n.val) (hn : (s.slot n).state = .held) :
    s.requeueHeld = ((s.setPool { s.pool.put n { s.slot n with state := .queued } with
      writeQ := s.pool.writeQ ++ [n] }).answer .accepted).serveHead := by
  simp only [State.requeueHeld, namedHeld_eq_some hc hn, Pool.requeue_eq hn]
  rfl

end State

open State in
/-- Settles O23: the refusals, and the slot at the tail of the queue it joins. -/
theorem heldSlotCommands : Obligations.HeldSlotCommands := by
  refine ⟨?refused, ?requeued, ?taken, ?delivered⟩
  case refused =>
    intro s h
    have none := namedHeld_eq_none (s := s.touch) h
    have refused : s.touch.requeueHeld = s.touch.answer .notHeld ∧
        s.touch.discardHeld = s.touch.answer .notHeld ∧
        s.touch.deliverHeld = s.touch.answer .notHeld := by
      simp only [State.requeueHeld, State.discardHeld, State.deliverHeld, none, and_self]
    exact ⟨congrArg Host.Outcome.next refused.1, congrArg Host.Outcome.next refused.2.1,
      congrArg Host.Outcome.next refused.2.2⟩
  case requeued =>
    intro s n hc hn hw
    exact congrArg Host.Outcome.next
      ((requeueHeld_queued (s := s.touch) hc hn).trans (serveHead_of_work hw))
  case taken =>
    intro s n hc hn _
    exact congrArg Host.Outcome.next (requeueHeld_queued (s := s.touch) hc hn)
  case delivered =>
    intro s n hc hn
    show Host.Outcome.next s.touch.deliverHeld = _
    simp only [State.deliverHeld, namedHeld_eq_some (s := s.touch) hc hn, State.joinReadTail,
      Pool.toReadTail_eq (p := s.touch.pool) hn nofun nofun]
    by_cases hq : s.pool.readQ = []
    · simp only [State.touch_pool, State.setPool_pool, hq]
      rfl
    · simp only [State.touch_pool, State.setPool_pool, hq]
      rfl

end Sys2Proof.Machine
end

section
/-! SUPPORT. What follows a slot's becoming FREE, and the stream port's claims, words and end (R23, R37,
R38, R168 to R180). -/

namespace Sys2Proof.Machine

/-! ## The free count (R18) -/

/-- The slots other than one, below and above it. -/
theorem allSlots_split (n : SlotNo) :
    allSlots = allSlots.take n.val ++ n :: allSlots.drop (n.val + 1) ∧
      n ∉ allSlots.take n.val ∧ n ∉ allSlots.drop (n.val + 1) := by
  revert n; decide

namespace Pool

variable {p : Pool} {n : SlotNo} {r : SlotRecord}

theorem freeCount_eq_countP (p : Pool) :
    p.freeCount = allSlots.countP (fun n => (p.get n).state == .free) :=
  List.countP_eq_length_filter.symm

/-- The free count without slot `n`, to which the slot adds one where it is FREE. -/
theorem exists_freeCount_put (p : Pool) (n : SlotNo) :
    ∃ k, ∀ r, (p.put n r).freeCount = k + if r.state = .free then 1 else 0 := by
  obtain ⟨split, low, high⟩ := allSlots_split n
  refine ⟨(allSlots.take n.val).countP (fun m => (p.get m).state == .free) +
    (allSlots.drop (n.val + 1)).countP (fun m => (p.get m).state == .free), fun r => ?_⟩
  have same : ∀ l : List SlotNo, n ∉ l → l.countP (fun m => ((p.put n r).get m).state == .free) =
      l.countP (fun m => (p.get m).state == .free) := by
    intro l hl
    refine List.countP_congr fun m hm => ?_
    rw [Pool.get_put, if_neg (ne_of_mem_of_not_mem hm hl)]
  rw [freeCount_eq_countP]
  conv_lhs => rw [split]
  rw [List.countP_append, List.countP_cons, same _ low, same _ high, Pool.get_put, if_pos rfl]
  simp only [beq_iff_eq]
  omega

/-- A slot that becomes FREE adds one to the free count. -/
theorem freeCount_put_free (hn : (p.get n).state ≠ .free) :
    (p.put n .free).freeCount = p.freeCount + 1 := by
  obtain ⟨k, count⟩ := p.exists_freeCount_put n
  have before := count (p.get n)
  rw [Pool.put_get, if_neg hn] at before
  rw [count, before]
  rfl

/-- A FREE slot that is granted takes one from the free count. -/
theorem freeCount_put_taken (hn : (p.get n).state = .free) (hr : r.state ≠ .free) :
    (p.put n r).freeCount + 1 = p.freeCount := by
  obtain ⟨k, count⟩ := p.exists_freeCount_put n
  have before := count (p.get n)
  rw [Pool.put_get, if_pos hn] at before
  rw [count, before, if_neg hr]

/-- A slot in use that stays in use leaves the free count. -/
theorem freeCount_put_used (hn : (p.get n).state ≠ .free) (hr : r.state ≠ .free) :
    (p.put n r).freeCount = p.freeCount := by
  obtain ⟨k, count⟩ := p.exists_freeCount_put n
  have before := count (p.get n)
  rw [Pool.put_get, if_neg hn] at before
  rw [count, before, if_neg hr]

end Pool

namespace State

variable {s : State} {n m : SlotNo} {before : Nat}

/-! ## The stream port's claim (R37, R175, R177) -/

theorem streamClaim_granted (hn : (s.slot n).state = .free)
    (hm : ∀ m, m < n → (s.slot m).state ≠ .free) (hr : s.stream.reserve < s.pool.freeCount) :
    s.streamClaim = (s.setPool (s.pool.put n (.filling .stream))).setStream
      { s.stream with state := .filling, lossNoted := false } := by
  simp [State.streamClaim, Pool.lowestFree_eq_some hn hm, hr, Pool.grantFill_eq .stream hn]

theorem streamClaim_starved (hr : s.pool.freeCount ≤ s.stream.reserve) :
    s.streamClaim = s.setStream { s.stream with state := .starved } := by
  unfold State.streamClaim
  split
  · rfl
  · exact if_neg (Nat.not_lt.mpr hr)

/-- A port that is STARVED stays so where the free count is not greater than the reserve. -/
theorem retryStreamClaim_starved (hs : s.stream.state = .starved)
    (hr : s.pool.freeCount ≤ s.stream.reserve) : s.retryStreamClaim = s := by
  have same : s.setStream { s.stream with state := .starved } = s := by rw [← hs]; rfl
  rw [State.retryStreamClaim, if_pos hs, streamClaim_starved hr, same]

theorem retryStreamClaim_of_state (hs : s.stream.state ≠ .starved) : s.retryStreamClaim = s :=
  if_neg hs

/-! ## What follows a slot's becoming FREE (R23) -/

/-- With no slot FREE nothing follows. -/
theorem settleFree_noSlot (hn : ∀ n, (s.slot n).state ≠ .free) : s.settleFree before = s := by
  have none : s.pool.freeCount = 0 := by
    rw [Pool.freeCount_eq_countP, List.countP_eq_zero]
    exact fun n _ => by simpa using show (s.pool.get n).state ≠ .free from hn n
  have retry : s.retryStreamClaim = s := by
    by_cases hs : s.stream.state = .starved
    · exact retryStreamClaim_starved hs (by omega)
    · exact retryStreamClaim_of_state hs
  simp only [State.settleFree, retry, none]
  exact if_neg (by omega)

/-- Where the stream port takes no slot, SLOT_FREED is raised if none was FREE before. -/
theorem settleFree_kept (hr : s.retryStreamClaim = s) (hf : 0 < s.pool.freeCount) :
    s.settleFree before = if before = 0 then s.raise .slotFreed else s := by
  simp only [State.settleFree, hr, hf, and_true]

/-- Where the stream port takes the only slot that is FREE, or one was FREE before, no SLOT_FREED is
raised. -/
theorem settleFree_claimed (hs : s.stream.state = .starved) (hn : (s.slot n).state = .free)
    (hm : ∀ m, m < n → (s.slot m).state ≠ .free) (hr : s.stream.reserve < s.pool.freeCount)
    (hb : s.pool.freeCount = before + 1) :
    s.settleFree before = (s.setPool (s.pool.put n (.filling .stream))).setStream
      { s.stream with state := .filling, lossNoted := false } := by
  have taken := Pool.freeCount_put_taken (r := .filling .stream) hn nofun
  have retry : s.retryStreamClaim = _ := (if_pos hs).trans (streamClaim_granted hn hm hr)
  simp only [State.settleFree, retry]
  exact if_neg fun h => by
    have := h.2
    simp at this
    omega

theorem serveFreed_of_work (h : s.seq.work ≠ .waitSlot) :
    s.serveFreed before = s.settleFree before := by
  simp [State.serveFreed, State.waitsForSlot, h]

/-- A waiting READ unit is granted the only FREE slot, and goes on. -/
theorem serveFreed_granted (hs : s.seq.state = .running) (hw : s.seq.work = .waitSlot)
    (hn : (s.slot n).state = .free) (hm : ∀ m, m ≠ n → (s.slot m).state ≠ .free)
    (he : s.xp.levels.eom = false) (hf : s.MayForward) :
    ReadBegun (s.setPool (s.pool.put n .claimed)) n (s.serveFreed before) := by
  have pool : (s.grantClaim n).pool = s.pool.put n .claimed := Pool.grantRead_eq hn
  have none : ∀ m, ((s.grantClaim n).slot m).state ≠ .free := by
    intro m
    rw [State.slot, pool, Pool.get_put]
    split
    · nofun
    · next h => exact hm m h
  obtain ⟨t, goes, begun⟩ := readGoesOn_begun (s := s.grantClaim n) (n := n) he hf
  have served : s.serveFreed before = t := by
    simp only [State.serveFreed, State.waitsForSlot, hs, hw,
      Pool.lowestFree_eq_some hn fun m h => hm m h.ne, settleFree_noSlot none, goes]
    rfl
  rw [served]
  exact { begun with pool := begun.pool.trans pool }

end State

/-! ## The host's commands that free a slot (R35, R40, R42) -/

section Freeing

variable {c : Instr} {s : State} {n : SlotNo} {p : Pool}

/-- The command frees the slot `n`, the queues and the drain cursor then those of `p`. -/
def Frees (c : Instr) (s : State) (n : SlotNo) (p : Pool) : Prop :=
  (c = .cancelFill ∧ s.pool.hostFill = some n ∧ p = s.pool) ∨
    (c = .release ∧ (s.slot n).state = .ready ∧ (∃ q, s.pool.readQ = n :: q ∧
      p = { s.pool with readQ := q, drain := 0 })) ∨
    (c = .discardHeld ∧ s.host.cmdarg.toNat = n.val ∧ (s.slot n).state = .held ∧ p = s.pool)

/-- The state in which the slot `n` has just become FREE. -/
def State.freed (s : State) (n : SlotNo) (p : Pool) : State :=
  (s.touch.setPool (p.put n .free)).answer .accepted

theorem Frees.slots (h : Frees c s n p) : p.slots = s.pool.slots := by
  rcases h with ⟨-, -, rfl⟩ | ⟨-, -, q, -, rfl⟩ | ⟨-, -, -, rfl⟩ <;> rfl

theorem Frees.get (h : Frees c s n p) (m : SlotNo) : p.get m = s.slot m := by
  simp only [State.slot, Pool.get, h.slots]

theorem Frees.used (h : Frees c s n p) : (s.slot n).state ≠ .free := by
  rcases h with ⟨-, hn, -⟩ | ⟨-, hn, -⟩ | ⟨-, -, hn, -⟩
  · rw [State.slot, (Pool.hostFill_state hn).1]; nofun
  · rw [hn]; nofun
  · rw [hn]; nofun

/-- One slot more is FREE. -/
theorem Frees.freeCount (h : Frees c s n p) :
    (p.put n .free).freeCount = s.pool.freeCount + 1 := by
  have same : p.freeCount = s.pool.freeCount := by
    simp only [Pool.freeCount, Pool.get, h.slots]
  rw [Pool.freeCount_put_free (by rw [h.get]; exact h.used), same]

theorem Frees.exec (h : Frees c s n p) :
    exec c s = .next ((s.freed n p).serveFreed s.pool.freeCount) := by
  rcases h with ⟨rfl, hn, rfl⟩ | ⟨rfl, hn, q, hq, rfl⟩ | ⟨rfl, hc, hn, rfl⟩
  · show Host.Outcome.next s.touch.cancelFill = _
    simp only [State.cancelFill, State.touch_pool, hn,
      Pool.toFree_eq (Pool.hostFill_state hn).1 nofun nofun]
    rfl
  · have released : s.pool.releaseHead =
        ({ s.pool with readQ := q, drain := 0 } : Pool).put n .free := by
      rw [Pool.releaseHead, hq]
      rfl
    show Host.Outcome.next s.touch.release = _
    simp only [State.release, State.touch_pool, hq, released]
    rfl
  · show Host.Outcome.next s.touch.discardHeld = _
    simp only [State.discardHeld, State.namedHeld_eq_some (s := s.touch) hc hn,
      Pool.toFree_eq (p := s.touch.pool) hn nofun nofun]
    rfl

/-- The slots once `n` is FREE. -/
theorem Frees.freed_slot (h : Frees c s n p) (m : SlotNo) :
    (s.freed n p).slot m = if m = n then .free else s.slot m := by
  rw [← h.get]
  exact Pool.get_put ..

/-- With no READ unit waiting and no claim of the stream port to grant, SLOT_FREED is raised where no
slot was FREE. -/
theorem Frees.exec_kept (h : Frees c s n p) (hw : s.seq.work ≠ .waitSlot)
    (hr : (s.freed n p).retryStreamClaim = s.freed n p) :
    Sys2Proof.Machine.exec c s = .next { s with
      pool := p.put n SlotRecord.free
      host := if s.pool.freeCount = 0 then (s.host.answered .accepted).flagged .slotFreed
        else s.host.answered .accepted } := by
  have count : 0 < (s.freed n p).pool.freeCount := by
    show 0 < (p.put n .free).freeCount
    rw [h.freeCount]
    omega
  rw [h.exec, State.serveFreed_of_work (by exact hw), State.settleFree_kept hr count]
  split <;> rfl

/-- The same with the stream port not STARVED. -/
theorem Frees.exec_plain (h : Frees c s n p) (hw : s.seq.work ≠ .waitSlot)
    (hs : s.stream.state ≠ .starved) :
    Sys2Proof.Machine.exec c s = .next { s with
      pool := p.put n SlotRecord.free
      host := if s.pool.freeCount = 0 then (s.host.answered .accepted).flagged .slotFreed
        else s.host.answered .accepted } :=
  h.exec_kept hw (State.retryStreamClaim_of_state hs)

end Freeing

/-- Settles O21: the refusals, and for each command that frees a slot who is served with it. -/
theorem hostCommandsFreeASlot : Obligations.HostCommandsFreeASlot := by
  refine ⟨?noFill, ?cancelled, ?readEmpty, ?released, ?discarded, ?served⟩
  case noFill =>
    intro s h
    have accepted : s.touch.cancelFill = s.touch.answer .accepted := by
      simp only [State.cancelFill, State.touch_pool, h]
    exact congrArg Host.Outcome.next accepted
  case cancelled => exact fun s n h hw hs => Frees.exec_plain (.inl ⟨rfl, h, rfl⟩) hw hs
  case readEmpty => exact fun s h => congrArg Host.Outcome.next (if_pos h)
  case released =>
    exact fun s n q hq hn hw hs => Frees.exec_plain (.inr (.inl ⟨rfl, hn, q, hq, rfl⟩)) hw hs
  case discarded =>
    exact fun s n hc hn hw hs => Frees.exec_plain (.inr (.inr ⟨rfl, hc, hn, rfl⟩)) hw hs
  case served =>
    intro c s n p h
    have frees : Frees c s n p := h
    refine ⟨fun hs hw hn he hm => ?read, fun hw hs hr => ?starved, fun m hw hs hr hm hlow => ?claimed⟩
    case read =>
      have begun := State.serveFreed_granted (s := s.freed n p) (n := n)
        (before := s.pool.freeCount) hs hw (by rw [frees.freed_slot, if_pos rfl]; rfl)
        (fun m hmn => by rw [frees.freed_slot, if_neg hmn]; exact hn m) he hm
      refine ⟨_, frees.exec, ?_, begun.host, begun.seq, begun.motion, begun.dir, begun.linger,
        begun.stream, begun.pos, begun.capture, begun.pending⟩
      rw [begun.pool]
      exact Pool.put_put ..
    case starved =>
      refine frees.exec_kept hw (State.retryStreamClaim_starved hs ?_)
      show (p.put n .free).freeCount ≤ _
      rw [frees.freeCount]
      exact hr
    case claimed =>
      have count : (s.freed n p).pool.freeCount = s.pool.freeCount + 1 := frees.freeCount
      have free : ((s.freed n p).slot m).state = .free := by
        rw [frees.freed_slot]
        split
        · rfl
        · next hmn => exact hm.resolve_left hmn
      have lowest : ∀ k, k < m → ((s.freed n p).slot k).state ≠ .free := by
        intro k hk
        rw [frees.freed_slot, if_neg (hlow k hk).1]
        exact (hlow k hk).2
      rw [frees.exec, State.serveFreed_of_work (by exact hw), State.settleFree_claimed (s := s.freed n p) hs free lowest
        (by rw [count]; exact Nat.lt_succ_of_le hr) count]
      rfl

/-! ## STREAM_ON and STREAM_CLAIM_RETRY (R37, R173 to R177) -/

/-- The port as a session begins, its claim granted or not: in MASTER mode the first word interval has
begun. -/
theorem StreamPort.interval_fresh {p : StreamPort} (ha : p.acc = 0) (hf : p.fraction < 16) :
    p.interval = { p with acc := p.fraction, longInterval := false, edges := 0 } := by
  have short : ¬ 16 ≤ p.acc + p.fraction := by omega
  rw [StreamPort.interval]
  simp only [if_neg short]
  rw [ha, Nat.zero_add]

/-- SCLK and SFRM in MASTER mode as the first interval begins. -/
theorem StreamPort.pacing {p : StreamPort} (hm : p.master = true) (hs : p.state ≠ .off)
    (he : p.edges = 0) : p.clockDrive = .pacing ∧ p.sfrmOut = true := by
  have drive : p.clockDrive = .pacing := by simp [StreamPort.clockDrive, hm, hs]
  simp [StreamPort.sfrmOut, drive, he]

namespace State

variable {s : State}

/-- The state in which STREAM_ON makes its claim. -/
def sessionBegun (s : State) : State :=
  (s.touch.answer .accepted).setStream
    { s.stream with bits := [], discontinuity := false, lossNoted := false, acc := 0 }

theorem exec_streamOn (ho : s.stream.state = .off) (hl : s.stream.strlen % 2 = 0) :
    exec .streamOn s = .next (if s.sessionBegun.streamClaim.stream.master
      then s.sessionBegun.streamClaim.setStream s.sessionBegun.streamClaim.stream.interval
      else s.sessionBegun.streamClaim) := by
  have even : ¬ s.stream.strlen % 2 = 1 := by omega
  show Host.Outcome.next s.touch.streamOn = _
  simp only [State.streamOn, State.touch_stream, ho, even]
  rfl

/-- A session that has begun with its claim answered in `u`. -/
theorem streamOn_session {u : State} {p : Pool} {x : PortState} (ho : s.stream.state = .off)
    (hl : s.stream.strlen % 2 = 0) (hf : s.stream.fraction < 16) (hx : x ≠ .off)
    (hu : s.sessionBegun.streamClaim = u)
    (he : u = (s.sessionBegun.setPool p).setStream
      { s.sessionBegun.stream with state := x, lossNoted := false }) :
    ∃ t, exec .streamOn s = .next t ∧
      t = { s with
        pool := p
        stream := { s.stream with
          state := x, bits := [], discontinuity := false, lossNoted := false
          acc := if s.stream.master then s.stream.fraction else 0
          edges := t.stream.edges, longInterval := t.stream.longInterval }
        host := s.host.answered .accepted } ∧
      (s.stream.master = true → t.stream.edges = 0 ∧ t.stream.longInterval = false ∧
        t.stream.clockDrive = .pacing ∧ t.stream.sfrmOut = true) := by
  have on := exec_streamOn ho hl
  rw [hu] at on
  subst he
  have master : ((s.sessionBegun.setPool p).setStream { s.sessionBegun.stream with
      state := x, lossNoted := false }).stream.master = s.stream.master := rfl
  rw [master] at on
  by_cases hm : s.stream.master = true
  · rw [if_pos hm, StreamPort.interval_fresh rfl (by exact hf)] at on
    refine ⟨_, on, ?_, fun _ => ⟨rfl, rfl, StreamPort.pacing (by exact hm) hx rfl⟩⟩
    rw [if_pos hm]
    rfl
  · rw [if_neg hm] at on
    refine ⟨_, on, ?_, fun h => absurd h hm⟩
    rw [if_neg hm]
    rfl

end State

open State in
/-- Settles O27: the refusals of STREAM_ON, and the claim by the free count. -/
theorem streamClaims : Obligations.StreamClaims := by
  refine ⟨?busy, ?badLength, ?granted, ?starved, ?retried, ?waits, ?other⟩
  case busy => exact fun s h => congrArg Host.Outcome.next (if_pos h)
  case badLength =>
    intro s ho hl
    have refused : s.touch.streamOn = s.touch.answer .badLength := by
      simp [State.streamOn, ho, hl]
    exact congrArg Host.Outcome.next refused
  case granted =>
    intro s n ho hl hr hn hm hf
    exact streamOn_session ho hl hf nofun (streamClaim_granted (s := s.sessionBegun) hn hm hr) rfl
  case starved =>
    intro s ho hl hr hf
    exact streamOn_session (p := s.pool) ho hl hf nofun
      (streamClaim_starved (s := s.sessionBegun) hr) rfl
  case retried =>
    intro s n hs hr hn hm
    exact congrArg Host.Outcome.next ((if_pos hs).trans (streamClaim_granted hn hm hr))
  case waits => exact fun s hs hr => congrArg Host.Outcome.next (retryStreamClaim_starved hs hr)
  case other => exact fun s hs => congrArg Host.Outcome.next (retryStreamClaim_of_state hs)

/-! ## STREAM_OFF (R180) -/

namespace State

variable {s : State} {n : SlotNo}

/-- The fill slot joins the write queue with the discontinuity that was pending. -/
theorem queueStream_eq (hn : (s.slot n).state = .filling) :
    s.queueStream n = (s.setPool { s.pool.put n { s.slot n with
        state := .queued, tag := some s.pool.tag, discontinuity := s.stream.discontinuity } with
      writeQ := s.pool.writeQ ++ [n], tag := s.pool.tag + 1 }).setStream
        { s.stream with discontinuity := false } := by
  have state : ((s.pool.edit n (fun r => { r with
      discontinuity := s.stream.discontinuity })).get n).state = .filling := by
    rw [Pool.get_edit]
    exact hn
  simp only [State.queueStream, State.editSlot, State.setPool_pool, Pool.queueFilled_eq state,
    Pool.get_edit]
  simp only [Pool.edit, Pool.put_put, Pool.put_tag, Pool.put_writeQ]
  rfl

theorem exec_streamOff_queued (ho : s.stream.state ≠ .off) (hn : s.pool.streamFill = some n)
    (hl : 2 ≤ (s.slot n).length) :
    exec .streamOff s = .next (State.serveHead { s with
      pool := { s.pool.put n { s.slot n with
          state := .queued, tag := some s.pool.tag, discontinuity := s.stream.discontinuity } with
        writeQ := s.pool.writeQ ++ [n]
        tag := s.pool.tag + 1 }
      stream := s.stream.stopped
      host := s.host.answered .accepted }) := by
  have long : ¬ ((s.touch.answer .accepted).slot n).length < 2 := Nat.not_lt.mpr hl
  have fill : (s.touch.answer .accepted).pool.streamFill = some n := hn
  have on : (s.touch.answer .accepted).stream.state ≠ .off := ho
  show Host.Outcome.next s.touch.streamOff = _
  simp only [State.streamOff, if_neg on, fill, if_neg long,
    queueStream_eq (s := s.touch.answer .accepted) (Pool.streamFill_state hn).1]
  rfl

theorem exec_streamOff_freed (ho : s.stream.state ≠ .off) (hn : s.pool.streamFill = some n)
    (hl : (s.slot n).length < 2) :
    exec .streamOff s = .next (State.serveFreed s.pool.freeCount { s with
      pool := s.pool.put n SlotRecord.free
      stream := s.stream.stopped
      host := s.host.answered .accepted }) := by
  have short : ((s.touch.answer .accepted).slot n).length < 2 := hl
  have fill : (s.touch.answer .accepted).pool.streamFill = some n := hn
  have on : (s.touch.answer .accepted).stream.state ≠ .off := ho
  show Host.Outcome.next s.touch.streamOff = _
  simp only [State.streamOff, if_neg on, fill, if_pos short,
    Pool.toFree_eq (p := (s.touch.answer .accepted).pool) (Pool.streamFill_state hn).1 nofun nofun]
  rfl

end State

open State in
/-- Settles O28: the port OFF, and the fill slot queued, freed or handed on by its length. -/
theorem streamOffSettlesTheFillSlot : Obligations.StreamOffSettlesTheFillSlot := by
  refine ⟨?off, ?noFill, ?queued, ?freed, ?taken, ?granted, ?stopped⟩
  case off => exact fun s h => congrArg Host.Outcome.next (if_pos h)
  case noFill =>
    intro s ho hn
    show Host.Outcome.next s.touch.streamOff = _
    simp only [State.streamOff, State.answer_stream, State.touch_stream, if_neg ho,
      State.answer_pool, State.touch_pool, hn]
    rfl
  case queued =>
    intro s n ho hn hl hw
    rw [exec_streamOff_queued ho hn hl, serveHead_of_work (by exact hw)]
  case freed =>
    intro s n ho hn hl hw
    have count : 0 < (s.pool.put n .free).freeCount := by
      rw [Pool.freeCount_put_free (by rw [(Pool.streamFill_state hn).1]; nofun)]
      omega
    rw [exec_streamOff_freed ho hn hl, serveFreed_of_work (by exact hw),
      settleFree_kept (retryStreamClaim_of_state (by simp [StreamPort.stopped])) (by exact count)]
    split <;> rfl
  case taken =>
    intro s n ho hn hl _
    exact exec_streamOff_queued ho hn hl
  case granted =>
    intro s n ho hn hl hs hw hfree he hm
    refine ⟨_, exec_streamOff_freed ho hn hl, ?_⟩
    generalize hu : ({ s with
      pool := s.pool.put n SlotRecord.free
      stream := s.stream.stopped
      host := s.host.answered .accepted } : State) = u
    have slots : ∀ m, u.slot m = if m = n then .free else s.slot m := by
      intro m
      rw [← hu]
      exact Pool.get_put ..
    have begun := serveFreed_granted (s := u) (n := n) (before := s.pool.freeCount)
      (by rw [← hu]; exact hs) (by rw [← hu]; exact hw) (by rw [slots, if_pos rfl]; rfl)
      (fun m hmn => by rw [slots, if_neg hmn]; exact hfree m) (by rw [← hu]; exact he)
      (by rw [← hu]; exact hm)
    subst hu
    refine ⟨?_, begun.stream, begun.host, begun.seq, begun.motion, begun.dir, begun.linger,
      begun.pos, begun.capture, begun.pending⟩
    rw [begun.pool]
    exact Pool.put_put ..
  case stopped =>
    intro p
    refine ⟨?_, rfl, rfl, rfl, rfl, rfl, rfl, rfl, rfl, rfl, rfl⟩
    cases hm : p.master <;> simp [StreamPort.clockDrive, StreamPort.stopped, hm]

end Sys2Proof.Machine
end

section
/-! SUPPORT. The words of the stream port (R168, R171, R173, R176, R177). -/

namespace Sys2Proof.Machine

/-! ## Bits and bytes (R168) -/

theorem bitsValue_append (l r : List Bool) :
    bitsValue (l ++ r) = bitsValue l * 2 ^ r.length + bitsValue r := by
  have from_start : ∀ (r : List Bool) (v : Nat), r.foldl (fun v b => 2 * v + b.toNat) v =
      v * 2 ^ r.length + bitsValue r := by
    intro r
    induction r with
    | nil => intro v; simp [bitsValue]
    | cons b r ih =>
      intro v
      have tail : bitsValue (b :: r) = b.toNat * 2 ^ r.length + bitsValue r := by
        rw [bitsValue, List.foldl_cons, ih, Nat.mul_zero, Nat.zero_add]
      rw [List.foldl_cons, ih, tail, List.length_cons, Nat.pow_succ]
      ring
  rw [bitsValue, List.foldl_append, from_start]
  rfl

theorem bitsValue_lt (l : List Bool) : bitsValue l < 2 ^ l.length := by
  induction l using List.reverseRecOn with
  | nil => simp [bitsValue]
  | append_singleton l b ih =>
    have bit : bitsValue [b] < 2 := by cases b <;> decide
    rw [bitsValue_append, List.length_append, Nat.pow_add]
    simp only [List.length_singleton, Nat.pow_one]
    omega

/-- The byte of some bits is their word, of which it keeps eight bits. -/
theorem bitsByte_eq (l : List Bool) : bitsByte l = BitVec.ofNat 8 (bitsValue l) := by
  induction l using List.reverseRecOn with
  | nil => rfl
  | append_singleton l b ih =>
    have shift : ∀ (x : Byte) (b : Bool), (x <<< 1) ||| bitAt 0 b =
        x * 2 + BitVec.ofNat 8 b.toNat := by decide
    have last : bitsByte (l ++ [b]) = (bitsByte l <<< 1) ||| bitAt 0 b := by simp [bitsByte]
    rw [last, shift, ih, bitsValue_append]
    apply BitVec.eq_of_toNat_eq
    have bit : bitsValue [b] = b.toNat := by simp [bitsValue]
    simp [bit, BitVec.toNat_add, BitVec.toNat_mul]

/-- A word of sixteen bits is its high byte and its low byte. -/
theorem bitsByte_word {l : List Bool} (h : l.length = 16) :
    (bitsByte (l.take 8)).toNat * 256 + (bitsByte (l.drop 8)).toNat = bitsValue l := by
  have value : ∀ r : List Bool, r.length = 8 → (bitsByte r).toNat = bitsValue r := by
    intro r hr
    have := bitsValue_lt r
    rw [hr] at this
    rw [bitsByte_eq, BitVec.toNat_ofNat]
    omega
  have low : (l.drop 8).length = 8 := by simp [h]
  rw [value _ (by simp [h]), value _ low]
  conv_rhs => rw [← List.take_append_drop 8 l, bitsValue_append, low]
  rfl

/-! ## Two bytes appended (R176) -/

/-- The store once a word is written at the length of a slot. -/
def Pool.wordData (p : Pool) (n : SlotNo) (l : List Bool) : Memory :=
  (p.data.write (slotAddr n (p.get n).length) (bitsByte (l.take 8))).write
    (slotAddr n ((p.get n).length + 1)) (bitsByte (l.drop 8))

theorem Pool.append_word {p : Pool} {n : SlotNo} {l : List Bool} (h : (p.get n).length + 2 ≤ 1024) :
    (p.append n (bitsByte (l.take 8))).append n (bitsByte (l.drop 8)) =
      { p.put n { p.get n with length := (p.get n).length + 2 } with data := p.wordData n l } := by
  have first := Pool.get_append (p := p) (n := n) (bitsByte (l.take 8)) (by omega)
  rw [Pool.append_eq (p := p.append n _) _ (by rw [first]; show _ + 1 < _; omega), first,
    Pool.append_eq _ (by omega)]
  simp only [Pool.put, Vector.set_set, Pool.wordData]

/-- The two bytes read as the word, and every other byte as before. -/
theorem Pool.wordData_read {p : Pool} {n : SlotNo} {l : List Bool} (hw : p.data.wf = true)
    (hl : l.length = 16) :
    ((p.wordData n l).read (1024 * n.val + (p.get n).length)).toNat * 256 +
        ((p.wordData n l).read (1024 * n.val + (p.get n).length + 1)).toNat = bitsValue l ∧
      ∀ k, k ≠ 1024 * n.val + (p.get n).length → k ≠ 1024 * n.val + (p.get n).length + 1 →
        (p.wordData n l).read k = p.data.read k := by
  have wf := Memory.write_wf (slotAddr n (p.get n).length) (bitsByte (l.take 8)) hw
  have high : (p.wordData n l).read (1024 * n.val + (p.get n).length) = bitsByte (l.take 8) :=
    (Memory.read_write_other _ wf (by show 1024 * n.val + _ ≠ 1024 * n.val + _; omega)).trans
      (Memory.read_write_same _ hw)
  have low : (p.wordData n l).read (1024 * n.val + (p.get n).length + 1) = bitsByte (l.drop 8) :=
    Memory.read_write_same _ wf
  rw [high, low]
  exact ⟨bitsByte_word hl, fun k h1 h2 => (Memory.read_write_other _ wf h2).trans
    (Memory.read_write_other _ hw h1)⟩

/-! ## A word completed (R171, R173) -/

namespace State

variable {s : State} {n : SlotNo} {e : Nat}

/-- The edge that completes a word counts `e` edges of the interval, and hands the word on. -/
theorem exec_streamWordComplete (b : Bool) (ho : s.stream.state ≠ .off)
    (hb : s.stream.bits.length = 15)
    (he : (s.stream.master = false ∧ e = s.stream.edges) ∨
      (s.stream.master = true ∧ 0 < s.stream.edges ∧ s.stream.edges < 16 ∧
        e = s.stream.edges + 1)) :
    exec (.streamWordComplete b) s =
      .next ((s.setStream { s.stream with edges := e }).wordDone (s.stream.bits ++ [b])) := by
  have done : ∀ u : State, u.stream.bits = s.stream.bits →
      u.addBit b = u.wordDone (s.stream.bits ++ [b]) := by
    intro u hu
    simp [State.addBit, hu, hb]
  have partly : s.stream.bits ≠ [] := by
    intro h
    rw [h] at hb
    cases hb
  have goes : exec (.streamWordComplete b) s = .next
      (if s.stream.master then s.masterEdge b else s.slaveEdge false b) :=
    congrArg Host.Outcome.next (if_pos ⟨ho, hb⟩)
  rw [goes]
  rcases he with ⟨hm, rfl⟩ | ⟨hm, h0, h16, rfl⟩
  · have slave : s.slaveEdge false b = s.addBit b := by simp [State.slaveEdge, partly]
    have master : ¬ s.stream.master = true := by simp [hm]
    rw [if_neg master, slave, done s rfl]
    rfl
  · have inside : s.stream.sfrmOut = false := by simp [StreamPort.sfrmOut]; omega
    have master : s.masterEdge b = (s.setStream { s.stream with
        edges := s.stream.edges + 1 }).addBit b := by
      simp [State.masterEdge, inside]
      omega
    rw [if_pos hm, master, done (s.setStream { s.stream with edges := s.stream.edges + 1 }) rfl]

/-- A word completed in FILLING is stored, and the slot it fills is queued (R176). -/
theorem wordDone_filling {l : List Bool} (hs : s.stream.state = .filling)
    (hn : s.pool.streamFill = some n) (hl : (s.slot n).length + 2 ≤ 1024) :
    s.wordDone l =
      (let u := (s.setStream { s.stream with bits := [] }).setPool
        { s.pool.put n { s.slot n with length := (s.slot n).length + 2 } with
          data := s.pool.wordData n l }
      if (s.slot n).length + 2 < s.stream.strlen then u
      else ((u.queueStream n).serveHead).streamClaim) := by
  have pool : (s.setStream { s.stream with bits := [] }).pool.streamFill = some n := hn
  have word := Pool.append_word (p := s.pool) (n := n) (l := l) hl
  have done : s.wordDone l = (s.setStream { s.stream with bits := [] }).storeWord l := by
    simp only [State.wordDone, State.setBits, State.setStream_stream, hs]
  have length : (((s.setStream { s.stream with bits := [] }).setPool
      { s.pool.put n { s.slot n with length := (s.slot n).length + 2 } with
        data := s.pool.wordData n l }).slot n).length = (s.slot n).length + 2 :=
    congrArg SlotRecord.length ((Pool.get_put ..).trans (if_pos rfl))
  rw [done]
  simp only [State.storeWord, pool]
  simp only [State.setStream_pool, word]
  split
  · next h => exact (if_pos (length.symm.trans_lt h)).symm
  · next h => exact (if_neg fun h' => h (length.trans_lt h')).symm

/-- A slot whose length has changed is queued with the discontinuity that was pending. -/
theorem queueStream_stored {x : StreamPort} {k : Nat} {d : Memory}
    (hn : (s.slot n).state = .filling) :
    ((s.setStream x).setPool { s.pool.put n { s.slot n with length := k } with
        data := d }).queueStream n = { s with
      pool := { s.pool.put n { s.slot n with
          length := k, state := .queued, tag := some s.pool.tag
          discontinuity := x.discontinuity } with
        writeQ := s.pool.writeQ ++ [n], tag := s.pool.tag + 1, data := d }
      stream := { x with discontinuity := false } } := by
  have slot : ((s.setStream x).setPool { s.pool.put n { s.slot n with length := k } with
      data := d }).slot n = { s.slot n with length := k } :=
    (Pool.get_put ..).trans (if_pos rfl)
  rw [queueStream_eq (by rw [slot]; exact hn), slot]
  simp only [State.setPool, State.setStream, Pool.put, Vector.set_set]

/-- A port that makes a claim makes it as a STARVED one. -/
theorem streamClaim_eq_retry (s : State) :
    s.streamClaim = (s.setStream { s.stream with state := .starved }).retryStreamClaim :=
  (if_pos rfl).symm

/-- A word completed in STARVED is lost (R177). -/
theorem wordDone_starved {l : List Bool} (hs : s.stream.state = .starved) :
    s.wordDone l = { s with
      stream := { s.stream with bits := [], discontinuity := true, lossNoted := true }
      host := if s.stream.lossNoted then s.host else s.host.flagged .streamLoss } := by
  have done : s.wordDone l = (s.setStream { s.stream with bits := [] }).loseWord := by
    simp only [State.wordDone, State.setBits, State.setStream_stream, hs]
  rw [done]
  cases h : s.stream.lossNoted <;> simp [State.loseWord, State.discontinue, h] <;> rfl

end State

open State in
/-- Settles O30: the edge that completes the word, and what the port's state makes of the word. -/
theorem wordsAreStoredOrLost : Obligations.WordsAreStoredOrLost := by
  intro b s e hb he
  have len : (s.stream.bits ++ [b]).length = 16 := by simp [hb]
  refine ⟨fun n hs hn h1024 hl hw => ?stored, fun hs => ?lost, fun n hs hn h1024 hl hw => ?full⟩
  case stored =>
    have ex := exec_streamWordComplete b (by rw [hs]; nofun) hb he
    rw [wordDone_filling (n := n) (by exact hs) (by exact hn) (by show (s.slot n).length + 2 ≤ _; omega)] at ex
    have room : ((s.setStream { s.stream with edges := e }).slot n).length + 2 <
        (s.setStream { s.stream with edges := e }).stream.strlen := hl
    simp only [if_pos room] at ex
    obtain ⟨value, other⟩ := Pool.wordData_read (n := n) hw len
    exact ⟨_, ex, rfl, value, other⟩
  case lost =>
    rw [exec_streamWordComplete b (by rw [hs]; nofun) hb he, wordDone_starved (by exact hs)]
    rfl
  case full =>
    have ex := exec_streamWordComplete b (by rw [hs]; nofun) hb he
    rw [wordDone_filling (n := n) (by exact hs) (by exact hn) (by show (s.slot n).length + 2 ≤ _; omega)] at ex
    have filled : ¬ ((s.setStream { s.stream with edges := e }).slot n).length + 2 <
        (s.setStream { s.stream with edges := e }).stream.strlen := by
      show ¬ (s.slot n).length + 2 < s.stream.strlen
      omega
    simp only [if_neg filled] at ex
    obtain ⟨value, other⟩ := Pool.wordData_read (n := n) hw len
    have filling := (Pool.streamFill_state hn).1
    have queued := queueStream_stored (s := s) (n := n) (k := (s.slot n).length + 2)
      (x := { s.stream with bits := [], edges := e })
      (d := s.pool.wordData n (s.stream.bits ++ [b])) filling
    generalize hu : ({ s with
      pool := { s.pool.put n { s.slot n with
          length := (s.slot n).length + 2, state := .queued, tag := some s.pool.tag
          discontinuity := s.stream.discontinuity } with
        writeQ := s.pool.writeQ ++ [n], tag := s.pool.tag + 1
        data := s.pool.wordData n (s.stream.bits ++ [b]) }
      stream := { s.stream with bits := [], edges := e, discontinuity := false } } : State) = u
      at queued
    have claimed : exec (.streamWordComplete b) s = .next u.serveHead.streamClaim := by
      rw [ex, ← queued]
      rfl
    refine ⟨u, by rw [← hu], by rw [← hu]; exact value, by rw [← hu]; exact other,
      ⟨u.serveHead, rfl, ?_⟩, fun hwork hr => ?_⟩
    · rw [claimed, streamClaim_eq_retry]
      rfl
    · have count : u.pool.freeCount = s.pool.freeCount := by
        rw [← hu]
        exact Pool.freeCount_put_used (p := s.pool) (n := n)
          (by show (s.pool.get n).state ≠ _; rw [filling]; nofun) nofun
      rw [claimed, serveHead_of_work (by rw [← hu]; exact hwork),
        streamClaim_starved (by rw [count, ← hu]; exact hr)]
      rfl

end Sys2Proof.Machine
end

section
/-! SUPPORT. How an entry and its list end, and what the entry's unit gives back (R28, R30, R62 to R66, R71,
R83, R155). -/

namespace Sys2Proof.Machine

namespace State

variable {s t u v : State} {p : Pool} {o : EntryOutcome} {c : EndCause}

/-! ## The end of a list (R65) -/

/-- The list is over with a cause, the tape not yet asked to stop. -/
def listOver (c : EndCause) (s : State) : State :=
  ((s.setSeq { s.seq with state := .idle, episode := none, endCause := c }).setWork .none).raise
    .listEnded

@[simp] theorem listOver_seq (c : EndCause) (s : State) : (s.listOver c).seq =
    { s.seq with state := .idle, episode := none, endCause := c, work := .none } := by
  simp [listOver]
@[simp] theorem listOver_xp (c : EndCause) (s : State) :
    (s.listOver c).xp = { s.xp with blankTimer := none } := by
  simp [listOver, setWork_none, State.stopBlank]
@[simp] theorem listOver_host (c : EndCause) (s : State) :
    (s.listOver c).host = s.host.flagged .listEnded := by
  simp [listOver, State.raise, HostPort.flagged]
@[simp] theorem listOver_wch (c : EndCause) (s : State) : (s.listOver c).wch = s.wch := by
  simp [listOver]
@[simp] theorem listOver_rch (c : EndCause) (s : State) : (s.listOver c).rch = s.rch := by
  simp [listOver]
@[simp] theorem listOver_pool (c : EndCause) (s : State) : (s.listOver c).pool = s.pool := by
  simp [listOver]
@[simp] theorem listOver_pos (c : EndCause) (s : State) : (s.listOver c).pos = s.pos := by
  simp [listOver]
@[simp] theorem listOver_stream (c : EndCause) (s : State) : (s.listOver c).stream = s.stream := by
  simp [listOver]
@[simp] theorem listOver_capture (c : EndCause) (s : State) :
    (s.listOver c).capture = s.capture := by
  simp [listOver]
@[simp] theorem listOver_pending (c : EndCause) (s : State) :
    (s.listOver c).pending = s.pending := by
  simp [listOver]

/-- The list ends: a tape that ramps or runs is asked to stop. -/
theorem listEnd_eq (c : EndCause) (s : State) :
    s.listEnd c = if s.xp.ramping then (s.listOver c).requestStop else s.listOver c := by
  have ramping : (s.listOver c).xp.ramping = s.xp.ramping := by rw [listOver_xp]; rfl
  rw [← ramping]
  rfl

/-- A tape that neither ramps nor runs stays as it is. -/
theorem listEnd_atRest (h : s.xp.ramping = false) : s.listEnd c = s.listOver c := by
  rw [listEnd_eq, h]
  rfl

/-- A part that a stop request leaves is as the list's end leaves it. -/
theorem listEnd_part {α : Sort _} (f : State → α) (h : ∀ s, f (State.requestStop s) = f s)
    (c : EndCause) (s : State) : f (s.listEnd c) = f (s.listOver c) := by
  rw [listEnd_eq]
  split
  · exact h _
  · rfl

@[simp] theorem listEnd_seq (c : EndCause) (s : State) : (s.listEnd c).seq =
    { s.seq with state := .idle, episode := none, endCause := c, work := .none } :=
  (listEnd_part State.seq (fun s => s.requestStop_seq) c s).trans (by simp)
@[simp] theorem listEnd_host (c : EndCause) (s : State) :
    (s.listEnd c).host = s.host.flagged .listEnded :=
  (listEnd_part State.host (fun s => s.requestStop_host) c s).trans (by simp)
@[simp] theorem listEnd_rch (c : EndCause) (s : State) : (s.listEnd c).rch = s.rch :=
  (listEnd_part State.rch (fun s => s.requestStop_rch) c s).trans (by simp)
@[simp] theorem listEnd_pool (c : EndCause) (s : State) : (s.listEnd c).pool = s.pool :=
  (listEnd_part State.pool (fun s => s.requestStop_pool) c s).trans (by simp)
@[simp] theorem listEnd_pos (c : EndCause) (s : State) : (s.listEnd c).pos = s.pos :=
  (listEnd_part State.pos (fun s => s.requestStop_pos) c s).trans (by simp)
@[simp] theorem listEnd_stream (c : EndCause) (s : State) : (s.listEnd c).stream = s.stream :=
  (listEnd_part State.stream (fun s => s.requestStop_stream) c s).trans (by simp)
@[simp] theorem listEnd_capture (c : EndCause) (s : State) : (s.listEnd c).capture = s.capture :=
  (listEnd_part State.capture (fun s => s.requestStop_capture) c s).trans (by simp)
@[simp] theorem listEnd_pending (c : EndCause) (s : State) : (s.listEnd c).pending = s.pending :=
  (listEnd_part State.pending (fun s => s.requestStop_pending) c s).trans (by simp)

/-- A flag raised in the host port. -/
theorem event_flagged {h : HostPort} (e : Event) (ht : t.host = h.flagged e) (hs : s.host = h)
    (e' : Event) : t.event e' = (s.event e' || decide (e = e')) := by
  rw [← event_raise]
  exact event_eq_of_host (by rw [ht, ← hs]; rfl) e'

theorem listEnd_event (c : EndCause) (s : State) (e : Event) :
    (s.listEnd c).event e = (s.event e || decide (Event.listEnded = e)) :=
  event_flagged .listEnded (listEnd_host c s) rfl e

/-! ## Which cause an outcome gives the list (R64, R71) -/

/-- An entry that ends with the outcome ends its list with the cause. -/
inductive EndsList (s : State) : EntryOutcome → EndCause → Prop where
  | terminal {o : EntryOutcome} (h : o.terminal = true) : EndsList s o .terminal
  | stopped : EndsList s .stopped .stopped
  | short {o : EntryOutcome} (h : o.short = true) (hh : s.entry.haltOnShort = true) :
    EndsList s o .completed
  | lastDone (h : s.lastEntry) : EndsList s .done .completed
  | last {o : EntryOutcome} (ht : o.terminal = false) (ho : o ≠ .stopped) (h : s.lastEntry)
    (hi : s.seq.stopInd = false) : EndsList s o .completed
  | stopInd {o : EntryOutcome} (h : o.short = true) (hh : s.entry.haltOnShort = false)
    (hi : s.seq.stopInd = true) : EndsList s o .stopped

/-- A short outcome is none of the others that a list's end is judged by. -/
theorem short_plain (h : o.short = true) : o.terminal = false ∧ o ≠ .stopped ∧ o ≠ .done := by
  cases o <;> simp_all [EntryOutcome.short, EntryOutcome.terminal]

theorem EndsList.goOn (h : EndsList s o c) : s.goOn o = (s.listEnd c, false) := by
  cases h with
  | terminal h => simp [State.goOn, h]
  | stopped => simp [State.goOn, EntryOutcome.terminal]
  | short h hh =>
    obtain ⟨terminal, stopped, -⟩ := short_plain h
    simp [State.goOn, terminal, stopped, h, hh]
  | lastDone h => simp [State.goOn, EntryOutcome.terminal, EntryOutcome.short, h.1, h.2]
  | last ht ho h hi => exact goOn_completed ht ho hi (.inr h)
  | stopInd h hh hi =>
    obtain ⟨terminal, stopped, done⟩ := short_plain h
    simp [State.goOn, terminal, stopped, done, hh, hi]

/-- What an outcome leads to depends on the list, the current entry and the stop indication only. -/
theorem EndsList.congr (h : EndsList s o c) (hm : t.seq.listMem = s.seq.listMem)
    (hc : t.seq.cur = s.seq.cur) (hl : t.seq.ctl = s.seq.ctl) (hi : t.seq.stopInd = s.seq.stopInd) :
    EndsList t o c := by
  have entry : t.entry = s.entry := entry_congr hm hc
  have last : s.lastEntry → t.lastEntry := fun h => by simpa [State.lastEntry, hl, hc] using h
  cases h with
  | terminal h => exact .terminal h
  | stopped => exact .stopped
  | short h hh => exact .short h (by rw [entry, hh])
  | lastDone h => exact .lastDone (last h)
  | last ht ho h hs => exact .last ht ho (last h) (by rw [hi, hs])
  | stopInd h hh hs => exact .stopInd h (by rw [entry, hh]) (by rw [hi, hs])

/-- An entry that ends its list: its result is posted, and the list is over. -/
theorem endEntry_listEnd (hr : v.host.results.length < 16) (h : EndsList v o c) :
    v.endEntry o = (v.entryClosed o).listEnd c := by
  have closed : EndsList (v.entryClosed o) o c := h.congr (by simp) (by simp) (by simp) (by simp)
  rw [State.endEntry, settleEntry_room o hr, closed.goOn]
  rfl

/-- From `u`, the current entry has ended with an outcome in `t`, and its list with a cause. -/
structure EntryOver (u : State) (o : EntryOutcome) (c : EndCause) (t : State) : Prop where
  results : t.host.results = u.host.results ++ [u.buildResult o]
  event : ∀ e, t.event e =
    (u.event e || decide (Event.resultPosted = e) || decide (Event.listEnded = e))
  cmdstat : t.host.cmdstat = u.host.cmdstat
  seq : t.seq = { u.seq with state := .idle, episode := none, endCause := c, work := .none }
  pool : t.pool = u.pool
  pos : t.pos = u.pos
  rch : t.rch = u.rch
  stream : t.stream = u.stream
  capture : t.capture = u.capture
  pending : t.pending = u.pending

theorem endEntry_over (hr : u.host.results.length < 16) (h : EndsList u o c) :
    EntryOver u o c (u.endEntry o) := by
  rw [endEntry_listEnd hr h]
  constructor
  case results => simpa [HostPort.flagged] using entryClosed_results o u
  case event => intro e; rw [listEnd_event, entryClosed_event]
  case cmdstat => simp [HostPort.flagged, entryClosed, State.joinResult, State.setEpisode]
  case seq => simp
  all_goals simp

/-- The result and the list's end, as they are said from the state before. -/
theorem EntryOver.list (h : EntryOver u o c t) (hr : u.host.results = s.host.results)
    (hl : u.seq.listMem = s.seq.listMem) (hp : u.pending = s.pending) :
    s.listEndedWith t (u.buildResult o) o c :=
  ⟨by rw [h.results, hr], rfl, by simp [h.event], by simp [h.event], by rw [h.seq], by rw [h.seq],
    by rw [h.seq], by rw [h.seq]; exact hl, h.pending.trans hp⟩

/-- At rest the tape and the write channel stay as they are. -/
theorem endEntry_atRest (hr : u.host.results.length < 16) (h : EndsList u o c)
    (hm : u.xp.ramping = false) :
    (u.endEntry o).xp = { u.xp with blankTimer := none } ∧ (u.endEntry o).wch = u.wch := by
  have rest : (u.entryClosed o).xp.ramping = false := by rw [entryClosed_xp]; exact hm
  rw [endEntry_listEnd hr h, listEnd_atRest rest]
  simp

/-- The write channel with both gates off (R97). -/
theorem stopMotion_wch (s : State) :
    s.stopMotion.wch = { s.wch with wgate := false, egate := false, run := false } := by
  simp [State.stopMotion, State.enterMotion, State.dropGates]

theorem stopMotion_xp (s : State) : s.stopMotion.xp = { s.xp with
    motion := .stopping, fast := s.xp.fastLine, keptIdle := false
    rampTimer := some s.xp.timing.stopRamp, lingerTimer := none, rewindTimer := none
    blankTimer := none } := by
  simp [State.stopMotion, enterMotion_xp]

/-- A tape that starts or runs stops by its ramp, and what it holds is dropped (R155). -/
theorem takeStop_moving (hm : s.xp.motion ∈ [.starting, .running]) :
    s.takeStop = s.stopMotion.hold none := by
  rcases List.mem_pair.mp hm with hm | hm <;> simp only [State.takeStop, hm]

/-- A tape that runs outside BLOCK stops by its ramp, with the gates off. -/
theorem endEntry_stopped (hr : u.host.results.length < 16) (h : EndsList u o c)
    (hm : u.xp.motion = .running) (hp : u.wch.phase ≠ .block) :
    (u.endEntry o).xp.motion = .stopping ∧ (u.endEntry o).xp.dir = u.xp.dir ∧
      (u.endEntry o).xp.levels = u.xp.levels ∧
      (u.endEntry o).wch = { u.wch with wgate := false, egate := false, run := false } := by
  have ramps : (u.entryClosed o).xp.ramping = true := by
    rw [entryClosed_xp]
    simp [Transport.ramping, hm]
  have stopped : u.endEntry o = (((u.entryClosed o).listOver c).stopMotion).hold none := by
    rw [endEntry_listEnd hr h, listEnd_eq, if_pos ramps, State.requestStop,
      if_neg (by simpa using hp), takeStop_moving (by simp [hm])]
  rw [stopped]
  simp [stopMotion_xp, stopMotion_wch]

/-- In BLOCK the stop is deferred. -/
theorem endEntry_deferred (hr : u.host.results.length < 16) (h : EndsList u o c)
    (hm : u.xp.ramping = true) (hp : u.wch.phase = .block) :
    (u.endEntry o).xp = { u.xp with
      blankTimer := none
      deferred := u.xp.deferred.filter (fun q => q != .stop) ++ [.stop] } ∧
    (u.endEntry o).wch = u.wch := by
  have ramps : (u.entryClosed o).xp.ramping = true := by rw [entryClosed_xp]; exact hm
  rw [endEntry_listEnd hr h, listEnd_eq, if_pos ramps]
  simp [State.requestStop, hp, State.defer, State.setDeferred]

/-! ## What the unit gives back (R28, R30, R62, R83) -/

/-- A running entry gives back by the sequencer, the pool and the stream port alone. -/
theorem entryGivesBack_congr (h : s.entryGivesBack p) (hseq : t.seq = s.seq)
    (hpool : t.pool = s.pool) (hstream : t.stream = s.stream) : t.entryGivesBack p := by
  have slot : t.slot = s.slot := by
    funext n
    rw [State.slot, State.slot, hpool]
  simpa [State.entryGivesBack, State.unitGivesBack, State.episodeGivesBack, hseq, hpool, hstream,
    slot] using h

/-- An entry that gives something back runs. -/
theorem entryRuns_of_givesBack (h : s.entryGivesBack p) : s.seq.state.entryRuns = true := by
  rcases h with ⟨h, -⟩ | ⟨h, -⟩ <;> rcases List.mem_pair.mp h with h | h <;> rw [h] <;> rfl

/-- From `s`, the pool has become `p` in `t`; one of the pool's event flags may have been set, and
nothing else has changed. -/
inductive PoolLeft (s : State) (p : Pool) : State → Prop where
  | plain : PoolLeft s p (s.setPool p)
  | flag (e : Event) (he : e ≠ .listEnded) : PoolLeft s p ((s.setPool p).raise e)

namespace PoolLeft

theorem event (h : PoolLeft s p t) {e : Event} (he : s.event e = true) : t.event e = true := by
  cases h with
  | plain => exact he
  | flag e' => rw [event_raise, show (s.setPool p).event e = true from he]; rfl

theorem listEnded (h : PoolLeft s p t) : t.event .listEnded = s.event .listEnded := by
  cases h with
  | plain => rfl
  | flag e he => rw [event_raise, decide_eq_false he, Bool.or_false]; rfl

theorem results (h : PoolLeft s p t) : t.host.results = s.host.results := by cases h <;> rfl
theorem cmdstat (h : PoolLeft s p t) : t.host.cmdstat = s.host.cmdstat := by cases h <;> rfl
theorem pool (h : PoolLeft s p t) : t.pool = p := by cases h <;> rfl
theorem seq (h : PoolLeft s p t) : t.seq = s.seq := by cases h <;> rfl
theorem xp (h : PoolLeft s p t) : t.xp = s.xp := by cases h <;> rfl
theorem wch (h : PoolLeft s p t) : t.wch = s.wch := by cases h <;> rfl
theorem rch (h : PoolLeft s p t) : t.rch = s.rch := by cases h <;> rfl
theorem pos (h : PoolLeft s p t) : t.pos = s.pos := by cases h <;> rfl
theorem stream (h : PoolLeft s p t) : t.stream = s.stream := by cases h <;> rfl
theorem capture (h : PoolLeft s p t) : t.capture = s.capture := by cases h <;> rfl
theorem pending (h : PoolLeft s p t) : t.pending = s.pending := by cases h <;> rfl

end PoolLeft

/-- The ACTIVE slot of a unit becomes FREE. -/
theorem freeActive_left {n : SlotNo} (ha : (s.slot n).state = .active)
    (hs : s.stream.state ≠ .starved) : PoolLeft s (s.pool.put n .free) (s.freeActive n) := by
  rw [freeActive_eq ha]
  obtain e | ⟨-, e⟩ := settleFree_cases (s := s.setPool (s.pool.put n .free)) hs s.pool.freeCount
  · rw [e]; exact .plain
  · rw [e]; exact .flag _ nofun

theorem dropUnit_left (h : s.unitGivesBack p) : PoolLeft s p s.dropUnit := by
  rcases h with ⟨n, hw, ha, rfl⟩ | ⟨n, hw, ha, hs, rfl⟩ | ⟨hw, rfl⟩
  · have dropped : s.dropUnit = s.setPool (s.pool.headReturn n) := by simp only [State.dropUnit, hw]
    rw [dropped, Pool.headReturn_eq ha]
    exact .plain
  · have dropped : s.dropUnit = s.freeActive n := by simp only [State.dropUnit, hw]
    rw [dropped]
    exact freeActive_left ha hs
  · have dropped : s.dropUnit = s := by
      unfold State.dropUnit
      split
      · next n h => exact absurd h (hw n).1
      · next n h => exact absurd h (hw n).2
      · rfl
    rw [dropped]
    exact .plain

/-- The failed slot of a read episode joins the read queue, DAMAGED where it had no class. -/
theorem deliverCut_left {n : SlotNo} (ha : (s.slot n).state = .active) :
    PoolLeft s { s.pool.put n { s.slot n with
        state := .ready
        read := { (s.slot n).read.flagged with cls := some ((s.slot n).read.cls.getD .damaged) } } with
      readQ := s.pool.readQ ++ [n]
      drain := if s.pool.readQ = [] then 0 else s.pool.drain } (s.deliverCut n) := by
  generalize hp : ({ s.pool.put n _ with readQ := _, drain := _ } : Pool) = p
  have tail : (s.pool.edit n (fun r => { r with
      read := { r.read.flagged with cls := some (r.read.cls.getD .damaged) } })).toReadTail .active n =
        p := by
    rw [Pool.toReadTail_eq (st := .active) (by rw [Pool.get_edit]; exact ha) nofun nofun, Pool.get_edit, ← hp]
    simp only [Pool.edit, Pool.put_put]
    rfl
  have cut : s.deliverCut n =
      if s.pool.readQ = [] ∧ p.readQ ≠ [] then (s.setPool p).raise .readAvailable
      else s.setPool p := by
    simp only [State.deliverCut, State.joinReadTail, State.editSlot, State.setPool_pool, tail,
      setPool_setPool]
    rfl
  rw [cut]
  split
  · exact .flag _ nofun
  · exact .plain

theorem episodeFate_left {e : Episode} (h : s.episodeGivesBack e p) :
    PoolLeft s p (s.episodeFate e) := by
  rcases h with ⟨n, hk, hs, ha, rfl⟩ | ⟨hk, rfl⟩ | ⟨n, hk, hs, ha, rfl⟩
  · have fate : s.episodeFate e = s.setPool (s.pool.hold n) := by
      simp only [State.episodeFate, hk, hs]
    have held : s.pool.hold n = s.pool.put n { s.slot n with state := .held } := if_pos ha
    rw [fate, held]
    exact .plain
  · have fate : s.episodeFate e = s := by simp only [State.episodeFate, hk]
    rw [fate]
    exact .plain
  · have fate : s.episodeFate e = s.deliverCut n := by simp only [State.episodeFate, hk, hs]
    rw [fate]
    exact deliverCut_left ha

/-- From `s`, the unit has given back its slot in `u`, the pool then `p`: beyond the pool, its event flags,
the reader's target and the write channel nothing has changed. -/
structure GivenBack (s : State) (p : Pool) (u : State) : Prop where
  pool : u.pool = p
  event : ∀ {e}, s.event e = true → u.event e = true
  listEnded : u.event .listEnded = s.event .listEnded
  results : u.host.results = s.host.results
  cmdstat : u.host.cmdstat = s.host.cmdstat
  seq : u.seq = s.seq
  xp : u.xp = s.xp
  pos : u.pos = s.pos
  tagMem : u.rch.tagMem = s.rch.tagMem
  stream : u.stream = s.stream
  capture : u.capture = s.capture
  pending : u.pending = s.pending

theorem GivenBack.nothing : GivenBack s s.pool s :=
  ⟨rfl, id, rfl, rfl, rfl, rfl, rfl, rfl, rfl, rfl, rfl, rfl⟩

theorem PoolLeft.givenBack (h : PoolLeft s p u) : GivenBack s p u.dropTarget where
  pool := h.pool
  event := h.event
  listEnded := h.listEnded
  results := h.results
  cmdstat := h.cmdstat
  seq := h.seq
  xp := h.xp
  pos := h.pos
  tagMem := by rw [← h.rch]; rfl
  stream := h.stream
  capture := h.capture
  pending := h.pending

/-- From `s`, the current entry has ended with an outcome in `t`, its list with a cause, and the pool is
then `p`. -/
structure EntryEnded (s : State) (o : EntryOutcome) (c : EndCause) (p : Pool) (t : State) : Prop where
  list : s.listEndedWith t (s.buildResult o) o c
  event : ∀ {e}, s.event e = true → t.event e = true
  cmdstat : t.host.cmdstat = s.host.cmdstat
  seq : t.seq = { s.seq with state := .idle, episode := none, endCause := c, work := .none }
  pool : t.pool = p
  pos : t.pos = s.pos
  tagMem : t.rch.tagMem = s.rch.tagMem
  stream : t.stream = s.stream
  capture : t.capture = s.capture

/-- A list's end is said from any state with the same results, list memory and commands to come. -/
theorem listEndedWith_congr {r : Result} (h : v.listEndedWith t r o c)
    (hr : v.host.results = s.host.results) (hl : v.seq.listMem = s.seq.listMem)
    (hp : v.pending = s.pending) : s.listEndedWith t r o c := by
  simpa only [State.listEndedWith, hr, hl, hp] using h

theorem buildResult_congr (hs : u.seq = s.seq) (hp : u.pos = s.pos) (o : EntryOutcome) :
    u.buildResult o = s.buildResult o := by
  have entry : u.entry = s.entry := entry_congr (by rw [hs]) (by rw [hs])
  simp only [State.buildResult, hs, hp, entry]

namespace GivenBack

theorem endsList (g : GivenBack s p u) (h : EndsList s o c) : EndsList u o c :=
  h.congr (by rw [g.seq]) (by rw [g.seq]) (by rw [g.seq]) (by rw [g.seq])

/-- The entry is the one that was current. -/
theorem entry (g : GivenBack s p u) : u.entry = s.entry :=
  entry_congr (by rw [g.seq]) (by rw [g.seq])

theorem room (g : GivenBack s p u) (hr : s.host.results.length < 16) :
    u.host.results.length < 16 := by rw [g.results]; exact hr

theorem ended (g : GivenBack s p u) (hr : s.host.results.length < 16) (h : EndsList s o c) :
    EntryEnded s o c p (u.endEntry o) := by
  have ends := endEntry_over (g.room hr) (g.endsList h)
  have result := buildResult_congr g.seq g.pos o
  constructor
  case list =>
    rw [← result]
    exact ends.list g.results (by rw [g.seq]) g.pending
  case event => intro e he; rw [ends.event, g.event he]; rfl
  case cmdstat => exact ends.cmdstat.trans g.cmdstat
  case seq => rw [ends.seq, g.seq]
  case pool => exact ends.pool.trans g.pool
  case pos => exact ends.pos.trans g.pos
  case tagMem => rw [ends.rch, g.tagMem]
  case stream => exact ends.stream.trans g.stream
  case capture => exact ends.capture.trans g.capture

/-- At rest nothing moves. -/
theorem endEntry_atRest (g : GivenBack s p u) (hr : s.host.results.length < 16)
    (h : EndsList s o c) (hm : s.xp.ramping = false) :
    (u.endEntry o).xp = { s.xp with blankTimer := none } ∧ (u.endEntry o).wch = u.wch := by
  have rest := State.endEntry_atRest (g.room hr) (g.endsList h) (by rw [g.xp]; exact hm)
  rwa [g.xp] at rest

/-- A tape that runs outside BLOCK stops by its ramp, with the gates off. -/
theorem endEntry_stopped (g : GivenBack s p u) (hr : s.host.results.length < 16)
    (h : EndsList s o c) (hm : s.xp.motion = .running) (hp : u.wch.phase ≠ .block) :
    (u.endEntry o).xp.motion = .stopping ∧ (u.endEntry o).xp.dir = s.xp.dir ∧
      (u.endEntry o).xp.levels = s.xp.levels ∧
      (u.endEntry o).wch = { u.wch with wgate := false, egate := false, run := false } := by
  have stopped := State.endEntry_stopped (g.room hr) (g.endsList h) (by rw [g.xp]; exact hm) hp
  rwa [g.xp] at stopped

end GivenBack

/-- The fate of what runs: the unit gives back what the entry gives back. -/
theorem fate_givenBack (h : s.entryGivesBack p) : GivenBack s p s.fate ∧ s.fate.wch = s.wch := by
  rcases h with ⟨-, he, h⟩ | ⟨-, e, he, h⟩
  · have fate : s.fate = s.dropUnit.dropTarget := by simp only [State.fate, he]
    rw [fate]
    exact ⟨(dropUnit_left h).givenBack, (dropUnit_left h).wch⟩
  · have fate : s.fate = (s.episodeFate e).dropTarget := by simp only [State.fate, he]
    rw [fate]
    exact ⟨(episodeFate_left h).givenBack, (episodeFate_left h).wch⟩

/-- A terminal change ends the entry that runs. -/
theorem terminalChange_runs (h : s.entryGivesBack p) (o : EntryOutcome) :
    s.terminalChange o = s.fate.endEntry o := if_pos (entryRuns_of_givesBack h)

/-- With no entry running a terminal change has no outcome. -/
theorem terminalChange_idle (h : s.seq.state.entryRuns = false) (o : EntryOutcome) :
    s.terminalChange o = s := by simp [State.terminalChange, h]

/-- Outside ABORTING nothing waits for the tape's rest. -/
theorem abortingCheck_of_state (h : s.seq.state ≠ .aborting) : s.abortingCheck = s :=
  if_neg (fun k => h k.1)

/-- ABORTING waits while a result is pending. -/
theorem abortingCheck_pending (h : s.seq.pendingResult ≠ none) : s.abortingCheck = s :=
  if_neg (fun k => h k.2.2)

/-- ABORTING ends the list at rest with no result pending. -/
theorem abortingCheck_ends (hs : s.seq.state = .aborting) (hp : s.seq.pendingResult = none)
    (hm : s.xp.atRest = true) : s.abortingCheck = s.listOver .aborted := by
  have rest : s.xp.ramping = false := by
    cases h : s.xp.motion <;> simp_all [Transport.atRest, Transport.ramping]
  rw [State.abortingCheck, if_pos ⟨hs, hm, hp⟩, listEnd_atRest rest]

end State

end Sys2Proof.Machine
end

section
/-! SUPPORT. Lines released at once, and what STOP and ABORT requests do to a tape in any motion (R113, R115,
R149, R155, R157). -/

namespace Sys2Proof.Machine

namespace State

variable {s t u v : State} {p : Pool} {o : EntryOutcome} {c : EndCause}

/-! ## What no motion request changes -/

/-- What a motion request, a stop request and the idle report leave as it was: the levels, the timing
table, the file map, and the write channel but for its gates. -/
def unmoved (s : State) : Levels × Timing × List (Nat × Nat) × WriteChannel :=
  (s.xp.levels, s.xp.timing, s.pos.map, { s.wch with wgate := false, egate := false, run := false })

@[simp] theorem unmoved_setDeferred (l : List Deferred) (s : State) :
    (s.setDeferred l).unmoved = s.unmoved := rfl
@[simp] theorem unmoved_hold (r : Option HeldRequest) (s : State) :
    (s.hold r).unmoved = s.unmoved := rfl
@[simp] theorem unmoved_setUnloadInd (b : Bool) (s : State) :
    (s.setUnloadInd b).unmoved = s.unmoved := rfl
@[simp] theorem unmoved_forgetTags (s : State) : s.forgetTags.unmoved = s.unmoved := rfl
@[simp] theorem unmoved_clearStraddle (s : State) : s.clearStraddle.unmoved = s.unmoved := rfl
@[simp] theorem unmoved_lost (s : State) : (s.onPos .lost).unmoved = s.unmoved := rfl
@[simp] theorem unmoved_bomReached (s : State) : (s.onPos .bomReached).unmoved = s.unmoved := rfl

@[simp] theorem unmoved_enterMotion (m : Motion) (d : Dir) (fast : Bool) (s : State) :
    (s.enterMotion m d fast).unmoved = s.unmoved := by
  unfold State.enterMotion
  split <;> rfl

@[simp] theorem unmoved_startMotion (d : Dir) (s : State) :
    (s.startMotion d).unmoved = s.unmoved := by
  refine Eq.trans ?_ (unmoved_enterMotion .starting d false s)
  cases d <;> rfl

@[simp] theorem unmoved_stopMotion (s : State) : s.stopMotion.unmoved = s.unmoved :=
  unmoved_enterMotion .stopping s.xp.dir s.xp.fastLine s

@[simp] theorem unmoved_startRewind (s : State) : s.startRewind.unmoved = s.unmoved :=
  unmoved_enterMotion .rewinding .reverse false s

@[simp] theorem unmoved_beginEject (s : State) : s.beginEject.unmoved = s.unmoved :=
  unmoved_enterMotion .unloading s.xp.dir false s

@[simp] theorem unmoved_defer (r : Deferred) (s : State) : (s.defer r).unmoved = s.unmoved := by
  unfold State.defer
  split <;> rfl

@[simp] theorem unmoved_takeStop (s : State) : s.takeStop.unmoved = s.unmoved := by
  unfold State.takeStop
  split <;> simp

@[simp] theorem unmoved_takeIdle (s : State) : s.takeIdle.unmoved = s.unmoved := by
  unfold State.takeIdle State.beginLinger
  split
  · split
    · rfl
    · split
      · exact unmoved_takeStop s
      · rfl
  · rfl
  · rfl

@[simp] theorem unmoved_takeDir (d : Dir) (s : State) : (s.takeDir d).1.unmoved = s.unmoved := by
  unfold State.takeDir
  (repeat' split) <;> simp [State.stopAndHold] <;> rfl

@[simp] theorem unmoved_requestDir (d : Dir) (s : State) :
    (s.requestDir d).1.unmoved = s.unmoved := by
  unfold State.requestDir
  cases d <;> dsimp only <;> split <;> simp

@[simp] theorem unmoved_rewindAtRest (s : State) : s.rewindAtRest.1.unmoved = s.unmoved := by
  unfold State.rewindAtRest
  split
  · dsimp only
    split <;> simp
  · exact unmoved_startRewind s

@[simp] theorem unmoved_unloadAtRest (s : State) : s.unloadAtRest.1.unmoved = s.unmoved := by
  unfold State.unloadAtRest
  dsimp only
  split <;> simp

theorem unmoved_requestLong (r : HeldRequest) (q : Deferred) {go : State → State × Reply}
    (h : (go s).1.unmoved = s.unmoved) : (s.requestLong r q go).1.unmoved = s.unmoved := by
  unfold State.requestLong
  (repeat' split) <;> simp [State.stopAndHold, h]

@[simp] theorem unmoved_takeOneDeferred (r : Deferred) (s : State) :
    (s.takeOneDeferred r).1.unmoved = s.unmoved := by
  cases r with
  | stop => exact unmoved_takeStop s
  | idle => exact unmoved_takeIdle s
  | reverse => exact unmoved_requestDir .reverse s
  | rewind => exact unmoved_requestLong _ _ (unmoved_rewindAtRest s)
  | unload => exact unmoved_requestLong _ _ (unmoved_unloadAtRest s)

@[simp] theorem unmoved_spendDeferred (s : State) : s.spendDeferred.unmoved = s.unmoved :=
  spendDeferred_keeps unmoved (fun r s => unmoved_takeOneDeferred r s) (fun _ => rfl) s

/-- With nothing deferred nothing is taken. -/
theorem spendDeferred_nil (h : s.xp.deferred = []) : s.spendDeferred = s := by
  have same : s.setDeferred [] = s := by rw [← h]; rfl
  rw [State.spendDeferred, h, same]
  rfl

theorem posSpent_nil (h : s.xp.deferred = []) : s.posSpent = s.pos := by
  simp [State.posSpent, h]

/-! ## Lines released at once (R113, R149) -/

/-- From `s`, every line has been released in `t`, which has the levels `l` and the state of motion `m`. -/
structure Released (m : Motion) (l : Levels) (s t : State) : Prop where
  motion : t.xp.motion = m
  levels : t.xp.levels = l
  timing : t.xp.timing = s.xp.timing
  held : t.xp.held = none
  unloadInd : t.xp.unloadInd = false
  ramp : t.xp.rampTimer = none
  linger : t.xp.lingerTimer = none
  wch : t.wch = .reset
  seq : t.seq = s.seq
  pool : t.pool = s.pool
  stream : t.stream = s.stream
  capture : t.capture = s.capture
  pending : t.pending = s.pending

section Released

variable {m : Motion} {l : Levels}

theorem Released.forgetTags (h : Released m l s t) : Released m l s t.forgetTags := { h with }
theorem Released.clearStraddle (h : Released m l s t) : Released m l s t.clearStraddle := { h with }
theorem Released.onPos (h : Released m l s t) (f : Position → Position) :
    Released m l s (t.onPos f) := { h with }
theorem Released.raise (h : Released m l s t) (e : Event) : Released m l s (t.raise e) := { h with }

theorem Released.rest (h : Released m l s t) (hm : m ∉ [.starting, .running, .stopping]) :
    t.xp.ramping = false := by
  simp only [Transport.ramping, h.motion]
  cases m <;> simp_all

end Released

theorem releaseLines_xp (m : Motion) (s : State) : (s.releaseLines m).xp = { s.xp with
    motion := m, fast := false, held := none, keptIdle := false, unloadInd := false
    rampTimer := none, lingerTimer := none, rewindTimer := none, blankTimer := none } := by
  simp [State.releaseLines, State.hold, State.setUnloadInd, enterMotion_xp]

/-- Between bursts there is nothing to cut. -/
theorem releaseAll_eq (m : Motion) (hr : s.rch.phase = .silent) :
    s.releaseAll m = s.channelIdle.spendDeferred.releaseLines m := by
  simp [State.releaseAll, State.cutBurst, State.inBurst, hr]

theorem releaseAll_host (m : Motion) (hr : s.rch.phase = .silent) :
    (s.releaseAll m).host = s.host := by
  simp [releaseAll_eq m hr, State.channelIdle]

theorem releaseAll_map (m : Motion) (hr : s.rch.phase = .silent) :
    (s.releaseAll m).pos.map = s.pos.map := by
  rw [releaseAll_eq m hr, releaseLines_pos]
  exact congrArg (·.2.2.1) (unmoved_spendDeferred s.channelIdle)

theorem releaseAll_released {m : Motion} (hm : m ≠ .running) (hr : s.rch.phase = .silent) :
    Released m s.xp.levels s (s.releaseAll m) := by
  have kept : s.channelIdle.spendDeferred.unmoved = s.channelIdle.unmoved :=
    unmoved_spendDeferred _
  have lines : (s.releaseAll m).wch =
      { s.channelIdle.spendDeferred.wch with wgate := false, egate := false, run := false } := by
    rw [releaseAll_eq m hr, State.releaseLines, State.enterMotion, if_neg (fun h => hm h.1)]
    rfl
  simp only [unmoved, Prod.mk.injEq] at kept
  obtain ⟨levels, timing, -, wch⟩ := kept
  constructor
  case wch => exact lines.trans wch
  all_goals simp only [releaseAll_eq m hr, releaseLines_xp]
  case levels => exact levels
  case timing => exact timing
  all_goals simp [State.channelIdle]

/-- The lines released as a level changes. -/
theorem releaseAll_onLevels {m : Motion} (hm : m ≠ .running) (hr : s.rch.phase = .silent)
    (f : Levels → Levels) : Released m (f s.xp.levels) s ((s.onLevels f).releaseAll m) :=
  { releaseAll_released (s := s.onLevels f) hm hr with }

/-- With the channel IDLE, a tape that starts or runs. -/
theorem channelIdle_moving (h : s.xp.motion ∈ [.starting, .running]) : s.channelIdle.Moving :=
  (List.mem_pair.mp h).imp id .inl

/-- The position once the deferred requests have been taken in forward motion, or with none. -/
theorem spendDeferred_pos (h : s.xp.motion ∈ [.starting, .running] ∨ s.xp.deferred = []) :
    s.channelIdle.spendDeferred.pos = s.posSpent := by
  rcases h with h | h
  · exact (spendDeferred_spent s.channelIdle rfl (channelIdle_moving h)).2.1
  · rw [spendDeferred_nil (by exact h), posSpent_nil h]
    rfl

theorem releaseAll_pos {m : Motion} (hr : s.rch.phase = .silent)
    (h : s.xp.motion ∈ [.starting, .running] ∨ s.xp.deferred = []) :
    (s.releaseAll m).pos = s.posSpent := by
  rw [releaseAll_eq m hr, releaseLines_pos, spendDeferred_pos h]

end State

end Sys2Proof.Machine
end

section
/-! SUPPORT. The edges of EOM, PRESENT, READY and WPERMIT (R62, R83, R113, R114, R159, R163, R164). -/

namespace Sys2Proof.Machine

namespace State

variable {s t u v : State} {p : Pool} {o : EntryOutcome} {c : EndCause}

/-- The state in which EOM has released every line. -/
def eomReleased (s : State) : State :=
  ((s.onLevels (fun l => { l with eom := true })).releaseAll .stopped).onPos (.edge .atEom)

theorem exec_eomRise (he : s.xp.levels.eom = false) (hm : s.xp.movingForward = true) :
    exec .eomRise s = .next (s.eomReleased.terminalChange .eomMet).abortingCheck := by
  have forward : (s.onLevels (fun l => { l with eom := true })).xp.movingForward = true := hm
  show execEomRise s = _
  simp only [execEomRise, he, forward]
  rfl

theorem eomReleased_released (hr : s.rch.phase = .silent) :
    Released .stopped { s.xp.levels with eom := true } s s.eomReleased :=
  (releaseAll_onLevels (m := .stopped) nofun hr (fun l => { l with eom := true })).onPos _

theorem eomReleased_host (hr : s.rch.phase = .silent) : s.eomReleased.host = s.host :=
  releaseAll_host (s := s.onLevels (fun l => { l with eom := true })) .stopped hr

end State

open State in
/-- Settles O51: the lines released, and then what runs ended. -/
theorem eomRiseReleasesTheLines : Obligations.EomRiseReleasesTheLines := by
  refine ⟨?forward, ?other⟩
  case forward =>
    intro s q he hm hd hr hq hpos
    have forward : s.xp.movingForward = true := by
      simp only [List.mem_cons, List.not_mem_nil, or_false] at hm
      rcases hm with hm | hm | hm <;> simp [Transport.movingForward, Transport.ramping, hm, hd]
    have released := eomReleased_released (s := s) hr
    have host := eomReleased_host hr
    have pos : s.eomReleased.pos = q := by
      have spent := releaseAll_pos (m := .stopped)
        (s := s.onLevels (fun l => { l with eom := true })) hr hq
      rw [hpos, State.eomReleased, onPos_pos, spent]
      simp [Position.edge]
      rfl
    have rest : s.eomReleased.xp.ramping = false := released.rest (by decide)
    rw [exec_eomRise he forward]
    refine ⟨?runs, ?idle⟩
    case runs =>
      intro p hp room
      have gives := entryGivesBack_congr hp released.seq released.pool released.stream
      obtain ⟨back, wch⟩ := fate_givenBack gives
      have ended := back.ended (by rw [host]; exact room) (.terminal rfl) (o := .eomMet)
      obtain ⟨xp, wch'⟩ := back.endEntry_atRest (by rw [host]; exact room)
        (.terminal rfl) rest (o := .eomMet)
      rw [terminalChange_runs gives, abortingCheck_of_state (by rw [ended.seq]; nofun)]
      refine ⟨_, _, rfl, listEndedWith_congr ended.list (by rw [host])
        (by rw [released.seq]) released.pending, congrArg Sequencer.record released.seq,
        congrArg Sequencer.cur released.seq, congrArg Sequencer.cycle released.seq, ?_⟩
      rw [xp, wch', wch, ended.pos, ended.pool, ended.stream, ended.capture]
      exact ⟨released.motion, released.levels, released.held, released.ramp, released.linger,
        released.timing, released.wch, pos, rfl, released.stream, released.capture⟩
    case idle =>
      intro state
      have none : s.eomReleased.seq.state.entryRuns = false := by
        rw [released.seq]
        simp only [List.mem_cons, List.not_mem_nil, or_false] at state
        rcases state with h | h | h <;> (show s.seq.state.entryRuns = false; rw [h]; rfl)
      rw [terminalChange_idle none]
      by_cases ends : s.seq.state = .aborting ∧ s.seq.pendingResult = .none
      · have rest : s.eomReleased.xp.atRest = true := by simp [Transport.atRest, released.motion]
        rw [abortingCheck_ends (by rw [released.seq]; exact ends.1)
          (by rw [released.seq]; exact ends.2) rest]
        refine ⟨_, rfl, ?_⟩
        simp only [listOver_xp, listOver_wch, listOver_pos, listOver_pool, listOver_stream,
          listOver_capture, listOver_pending, listOver_seq]
        refine ⟨released.motion, released.levels, released.held, released.ramp, released.linger,
          released.timing, released.wch, pos, released.pool, released.stream, released.capture,
          released.pending, ?_, fun h => absurd ends (not_and_or.mpr h), fun _ _ => ⟨trivial, trivial, ?_⟩⟩
        · rw [listOver_host, host]; rfl
        · rw [event_flagged .listEnded (listOver_host ..) rfl]; simp
      · have keeps : s.eomReleased.abortingCheck = s.eomReleased := by
          rcases not_and_or.mp ends with h | h
          · exact abortingCheck_of_state (by rw [released.seq]; exact h)
          · exact abortingCheck_pending (by rw [released.seq]; exact h)
        rw [keeps]
        exact ⟨_, rfl, released.motion, released.levels, released.held, released.ramp,
          released.linger, released.timing, released.wch, pos, released.pool, released.stream,
          released.capture, released.pending, by rw [host],
          fun _ => ⟨released.seq, host⟩, fun h h' => absurd ⟨h, h'⟩ ends⟩
  case other =>
    intro s he h
    have still : (s.onLevels (fun l => { l with eom := true })).xp.movingForward = false := by
      simp only [List.mem_cons, List.not_mem_nil, or_false] at h
      rcases h with h | h
      · simp [Transport.movingForward, State.onLevels, h]
      · simp only [not_or] at h
        obtain ⟨h1, h2, h3⟩ := h
        cases hm : s.xp.motion <;>
          simp_all [Transport.movingForward, Transport.ramping, State.onLevels]
    show execEomRise s = _
    simp only [execEomRise, he, still]
    rfl

namespace State

variable {s : State} {p : Pool} {o : EntryOutcome} {c : EndCause}

/-! ## PRESENT (R164) -/

/-- The state in which PRESENT has released every line, the position lost. -/
def cartridgeLost (s : State) : State :=
  ((((s.onLevels (fun l => { l with present := false })).releaseAll
    .noCartridge).clearStraddle.forgetTags).onPos .cartridgeGone).raise .cartridgeChange

theorem exec_presentFall (he : s.xp.levels.present = true) :
    exec .presentFall s = .next (if s.cartridgeLost.unloadRuns then s.cartridgeLost.endEntry .done
      else s.cartridgeLost.terminalChange .notReady).abortingCheck := by
  show execPresentFall s = _
  simp only [execPresentFall, he]
  rfl

/-- The lines as PRESENT falls. -/
theorem cartridgeLost_released (hr : s.rch.phase = .silent) :
    Released .noCartridge { s.xp.levels with present := false } s s.cartridgeLost :=
  ((releaseAll_onLevels (m := .noCartridge) nofun hr
    (fun l => { l with present := false })).clearStraddle.forgetTags.onPos _).raise _

theorem cartridgeLost_host (hr : s.rch.phase = .silent) :
    s.cartridgeLost.host = s.host.flagged .cartridgeChange := by
  have host := releaseAll_host (s := s.onLevels (fun l => { l with present := false }))
    .noCartridge hr
  have released : s.cartridgeLost.host = HostPort.flagged
      ((s.onLevels (fun l => { l with present := false })).releaseAll .noCartridge).host
      .cartridgeChange := rfl
  rw [released, host]
  rfl

/-- The file and the block are absent from a result that is built with the zone UNKNOWN. -/
theorem buildResult_unknown (h : s.pos.zone = .unknown) (o : EntryOutcome) :
    (s.buildResult o).file = none ∧ (s.buildResult o).block = none := by
  simp [State.buildResult, h]

/-- What runs as PRESENT falls: an UNLOAD ends DONE, and anything else is not ready. -/
theorem cartridgeLost_ends (hr : s.rch.phase = .silent) (hp : s.entryGivesBack p)
    (h : (s.seq.work ≠ .unload ∧ o = .notReady ∧ c = .terminal) ∨
      (s.seq.state ∈ [.running, .stopping] ∧ s.seq.work = .unload ∧ s.lastEntry ∧ o = .done ∧
        c = .completed)) :
    ∃ u, GivenBack s.cartridgeLost p u ∧ u.wch = s.cartridgeLost.wch ∧
      EndsList s.cartridgeLost o c ∧
      (if s.cartridgeLost.unloadRuns then s.cartridgeLost.endEntry .done
        else s.cartridgeLost.terminalChange .notReady) = u.endEntry o := by
  have released := cartridgeLost_released hr
  rcases h with ⟨work, rfl, rfl⟩ | ⟨state, work, last, rfl, rfl⟩
  · have other : s.cartridgeLost.unloadRuns = false := by
      simp [State.unloadRuns, released.seq, work]
    have gives := entryGivesBack_congr hp released.seq released.pool released.stream
    obtain ⟨back, wch⟩ := fate_givenBack gives
    exact ⟨_, back, wch, .terminal rfl, by
      rw [other, if_neg nofun, terminalChange_runs gives]⟩
  · have unloads : s.cartridgeLost.unloadRuns = true := by
      rcases List.mem_pair.mp state with state | state <;>
        simp [State.unloadRuns, released.seq, work, state, SeqState.unitRuns]
    have pool : p = s.cartridgeLost.pool := by
      rw [released.pool]
      rcases hp with ⟨-, -, hp⟩ | ⟨state', -⟩
      · simpa [State.unitGivesBack, work] using hp
      · rcases List.mem_pair.mp state with h | h <;> rw [h] at state' <;> cases state' <;> contradiction
    refine ⟨_, pool ▸ .nothing, rfl, .lastDone ?_, by rw [if_pos unloads]⟩
    simpa only [State.lastEntry, released.seq] using last

end State

open State in
/-- Settles O52: the lines released and the cartridge lost, and then what runs ended. -/
theorem cartridgeEdges : Obligations.CartridgeEdges := by
  refine ⟨?fallIdle, ?fallRuns, ?rise, ?noFall, ?noRise⟩
  case fallIdle =>
    intro s he state hr
    have released := cartridgeLost_released hr
    have seq : s.cartridgeLost.seq = s.seq := released.seq
    have plain : s.cartridgeLost.unloadRuns = false := by
      simp [State.unloadRuns, seq, state, SeqState.unitRuns]
    have kept : (s.cartridgeLost.terminalChange .notReady).abortingCheck = s.cartridgeLost := by
      rw [terminalChange_idle (by rw [seq, state]; rfl),
        abortingCheck_of_state (by rw [seq, state]; nofun)]
    rw [exec_presentFall he, plain, if_neg nofun, kept]
    exact ⟨_, rfl, released.motion, released.levels, released.held, released.unloadInd, released.wch,
      rfl, rfl, rfl, cartridgeLost_host hr, released.pool, seq, released.stream, released.capture,
      released.timing, released.pending⟩
  case fallRuns =>
    intro s p o c he hr _ room hp how
    have released := cartridgeLost_released hr
    have host := cartridgeLost_host hr
    have room : s.cartridgeLost.host.results.length < 16 := by rw [host]; exact room
    have rest := released.rest (by decide)
    obtain ⟨u, back, wch, ends, change⟩ := cartridgeLost_ends hr hp how
    have ended := back.ended room ends
    obtain ⟨xp, wch'⟩ := back.endEntry_atRest room ends rest
    obtain ⟨file, block⟩ := buildResult_unknown (s := s.cartridgeLost) rfl o
    rw [exec_presentFall he, change, abortingCheck_of_state (by rw [ended.seq]; nofun)]
    refine ⟨_, _, rfl, listEndedWith_congr ended.list (by rw [host]; rfl) (by rw [released.seq])
      released.pending, congrArg Sequencer.record released.seq,
      congrArg Sequencer.cur released.seq, file, block, ended.event ?_, ?_⟩
    · rw [event_flagged .cartridgeChange host rfl]
      simp
    · rw [xp, wch', wch, ended.pos, ended.pool, ended.tagMem, ended.stream, ended.capture]
      exact ⟨released.motion, released.levels, released.held, released.unloadInd, released.wch, rfl,
        rfl, rfl, released.stream, released.capture⟩
  case rise =>
    intro s he hm
    have rises : exec .presentRise s = .next
        (((s.onLevels (fun l => { l with present := true })).raise .cartridgeChange).enterMotion
          (if s.xp.levels.ready then .stopped else .notReady) s.xp.dir false) := by
      show execPresentRise s = _
      have motion : ((s.onLevels (fun l => { l with present := true })).raise
        .cartridgeChange).xp.motion = .noCartridge := hm
      simp only [execPresentRise, he, motion]
      rfl
    rw [rises]
    refine ⟨_, rfl, ?_⟩
    simp [enterMotion_xp, State.onLevels, State.raise, HostPort.flagged]
  case noFall => exact fun s he => congrArg Host.Outcome.next (if_neg (by rw [he]; nofun))
  case noRise => exact fun s he => congrArg Host.Outcome.next (if_pos he)

namespace State

variable {s t : State} {p : Pool} {o : EntryOutcome} {m : Motion}

/-! ## READY (R163) -/

/-- The state in which READY has released every line, the position lost. -/
def readyLost (m : Motion) (s : State) : State :=
  (((s.onLevels (fun l => { l with ready := false })).releaseAll m).forgetTags).onPos .lost

/-- The state of motion that READY leaves (R163). -/
def readyMotion (s : State) : Motion := if s.xp.motion = .stopped then .notReady else .fault

/-- The outcome of an entry that READY ends (R163). -/
def readyOutcome (s : State) : EntryOutcome :=
  if s.xp.motion = .stopped then .notReady else .transportFault

theorem readyMotion_rest (s : State) :
    s.readyMotion ≠ .running ∧ s.readyMotion ∉ [.starting, .running, .stopping] := by
  unfold readyMotion
  split <;> decide

theorem readyOutcome_terminal (s : State) : s.readyOutcome.terminal = true := by
  unfold readyOutcome
  split <;> rfl

theorem exec_readyFall (he : s.xp.levels.ready = true)
    (hm : s.xp.motion ∈ [.starting, .running, .stopping, .rewinding, .stopped])
    (ht : (s.readyLost s.readyMotion).terminalChange s.readyOutcome = t)
    (ha : t.seq.state ≠ .aborting) : exec .readyFall s = .next t := by
  show execReadyFall s = _
  have motion : (s.onLevels (fun l => { l with ready := false })).xp.motion = s.xp.motion := rfl
  simp only [execReadyFall, he, if_true, motion]
  simp only [List.mem_cons, List.not_mem_nil, or_false] at hm
  rcases hm with h | h | h | h | h <;> subst ht <;>
    simp only [readyMotion, readyOutcome, h, if_true, reduceCtorEq, if_false] at ha ⊢
  case inr.inr.inr.inr => rfl
  all_goals exact congrArg Host.Outcome.next (abortingCheck_of_state ha)

theorem readyLost_released (hm : m ≠ .running) (hr : s.rch.phase = .silent) :
    Released m { s.xp.levels with ready := false } s (s.readyLost m) :=
  (releaseAll_onLevels hm hr (fun l => { l with ready := false })).forgetTags.onPos _

theorem readyLost_host (hr : s.rch.phase = .silent) : (s.readyLost m).host = s.host :=
  releaseAll_host (s := s.onLevels (fun l => { l with ready := false })) m hr

theorem readyLost_pos (hr : s.rch.phase = .silent) :
    (s.readyLost m).pos = { s.pos with zone := .unknown, file := none, block := none } := by
  have map := releaseAll_map (s := s.onLevels (fun l => { l with ready := false })) m hr
  exact congrArg (fun l => ({ zone := .unknown, file := none, block := none, map := l } : Position))
    map

/-- The state in which the loss of WPERMIT has set the channel free. -/
def permitLost (s : State) : State :=
  (s.dropGates.onLevels (fun l => { l with wpermit := false })).channelIdle

theorem exec_wpermitFall (he : s.xp.levels.wpermit = true)
    (hp : s.wch.phase ∈ [.gap, .block, .erasing]) (hd : s.xp.deferred = [])
    (hw : s.seq.work.writeSide = true) :
    exec .wpermitFall s = .next (s.permitLost.terminalChange .writeProtected) := by
  have left : s.permitLost.blockLeft = s.permitLost := if_pos hd
  have side : s.permitLost.seq.work.writeSide = true := hw
  have ends : (if s.permitLost.blockLeft.seq.work.writeSide
      then s.permitLost.blockLeft.terminalChange .writeProtected else s.permitLost.blockLeft) =
        s.permitLost.terminalChange .writeProtected := by rw [left, if_pos side]
  show execWpermitFall s = _
  simp only [List.mem_cons, List.not_mem_nil, or_false] at hp
  rw [← ends]
  rcases hp with h | h | h <;> simp only [execWpermitFall, he, h] <;> rfl

end State

open State in
/-- Settles O53: the lines released and the position lost, or the gates off, and then what runs ended. -/
theorem readyAndPermitEdges : Obligations.ReadyAndPermitEdges := by
  refine ⟨?fallIdle, ?fallRuns, ?fallRest, ?riseLevel, ?rise, ?permitLevel, ?permitFall, ?permitRise⟩
  case fallIdle =>
    intro s he state hr hm
    have released := readyLost_released s.readyMotion_rest.1 hr
    have idle : (s.readyLost s.readyMotion).seq.state = .idle := by rw [released.seq, state]
    refine ⟨_, exec_readyFall he hm (terminalChange_idle (by rw [idle]; rfl) _)
      (by rw [idle]; nofun), released.motion, released.levels, released.held, released.wch,
      readyLost_pos hr, rfl, released.pool, released.seq, readyLost_host hr, released.stream,
      released.capture, released.pending⟩
  case fallRuns =>
    intro s p he hr _ room hp hm
    have released := readyLost_released s.readyMotion_rest.1 hr
    have room : (s.readyLost s.readyMotion).host.results.length < 16 := by
      rw [readyLost_host hr]; exact room
    have rest := released.rest s.readyMotion_rest.2
    have gives := entryGivesBack_congr hp released.seq released.pool released.stream
    obtain ⟨back, wch⟩ := fate_givenBack gives
    have ended := back.ended room (.terminal s.readyOutcome_terminal)
    obtain ⟨xp, wch'⟩ := back.endEntry_atRest room (.terminal s.readyOutcome_terminal) rest
    obtain ⟨file, block⟩ := buildResult_unknown (s := s.readyLost s.readyMotion) rfl s.readyOutcome
    refine ⟨_, _, exec_readyFall he hm (terminalChange_runs gives _) (by rw [ended.seq]; nofun),
      listEndedWith_congr ended.list (by rw [readyLost_host hr]) (by rw [released.seq])
      released.pending, congrArg Sequencer.record released.seq,
      congrArg Sequencer.cur released.seq, file, block, ?_⟩
    rw [xp, wch', wch, ended.pos, ended.pool, ended.tagMem, ended.stream, ended.capture]
    exact ⟨released.motion, released.levels, released.held, released.unloadInd, released.wch,
      readyLost_pos hr, rfl, rfl, released.stream, released.capture⟩
  case fallRest =>
    intro s he hm
    show execReadyFall s = _
    have motion : (s.onLevels (fun l => { l with ready := false })).xp.motion = s.xp.motion := rfl
    simp only [execReadyFall, he, if_true, motion]
    simp only [List.mem_cons, List.not_mem_nil, or_false] at hm
    rcases hm with h | h | h | h <;> (conv_lhs => simp only [h]) <;> rfl
  case riseLevel =>
    intro s he h
    have stays : ¬ ((s.onLevels (fun l => { l with ready := true })).xp.motion = .notReady ∧
        (s.onLevels (fun l => { l with ready := true })).xp.levels.present = true) := by
      exact fun k => h.elim (fun h => h k.1) (fun h => by simpa [State.onLevels, h] using k.2)
    show execReadyRise s = _
    simp only [execReadyRise, he, if_neg stays]
    rfl
  case rise =>
    intro s he hm hp
    have rises : exec .readyRise s = .next
        ((s.onLevels (fun l => { l with ready := true })).enterMotion .stopped s.xp.dir false) := by
      show execReadyRise s = _
      have stops : (s.onLevels (fun l => { l with ready := true })).xp.motion = .notReady ∧
        (s.onLevels (fun l => { l with ready := true })).xp.levels.present = true := ⟨hm, hp⟩
      simp only [execReadyRise, he, if_pos stops]
      rfl
    rw [rises]
    refine ⟨_, rfl, ?_⟩
    simp [enterMotion_xp, State.onLevels]
  case permitLevel =>
    intro s he hp
    show execWpermitFall s = _
    rcases hp with hp | hp <;> (conv_lhs => simp only [execWpermitFall, he, hp, if_true]) <;> rfl
  case permitFall =>
    intro s p he hp state episode deferred hm room hw
    have gives : s.permitLost.entryGivesBack p := by
      refine .inl ⟨List.mem_pair.mpr (.inl state), episode, ?_⟩
      rcases hw with ⟨n, work, ha, rfl⟩ | ⟨work, rfl⟩
      · exact .inl ⟨n, work, ha, rfl⟩
      · refine .inr (.inr ⟨fun n => ?_, rfl⟩)
        show s.seq.work ≠ _ ∧ s.seq.work ≠ _
        simp only [List.mem_cons, List.not_mem_nil, or_false] at work
        rcases work with h | h | h <;> simp [h]
    have side : s.seq.work.writeSide = true := by
      rcases hw with ⟨n, work, -⟩ | ⟨work, -⟩
      · rw [work]; rfl
      · simp only [List.mem_cons, List.not_mem_nil, or_false] at work
        rcases work with h | h | h <;> rw [h] <;> rfl
    obtain ⟨back, wch⟩ := fate_givenBack gives
    have ended := back.ended room (.terminal rfl) (o := .writeProtected)
    have idle : s.permitLost.fate.wch.phase ≠ .block := by rw [wch]; nofun
    obtain ⟨motion, dir, levels, wch'⟩ :=
      back.endEntry_stopped room (.terminal rfl) hm idle (o := .writeProtected)
    rw [exec_wpermitFall he hp deferred side, terminalChange_runs gives]
    exact ⟨_, _, rfl, by rw [wch', wch]; rfl, congrArg Levels.wpermit levels, ended.list, rfl,
      ended.pool, motion, dir, ended.pos, ended.stream, ended.capture⟩
  case permitRise =>
    intro s he
    show execWpermitRise s = _
    simp only [execWpermitRise, he]
    rfl

end Sys2Proof.Machine
end

section
/-! SUPPORT. STOP by the sequencer state and by the unit that runs (R69 to R71, R102). -/

namespace Sys2Proof.Machine

namespace State

variable {s t u v : State} {p : Pool} {o : EntryOutcome} {c : EndCause}

/-! ## The write channel while the tape is asked to stop (R155, R157) -/

/-- An idle channel has no gate to turn off. -/
theorem takeStop_wch (h : s.wch = .reset) : s.takeStop.wch = .reset := by
  unfold State.takeStop
  split <;> simp [stopMotion_wch, State.enterMotion, State.dropGates, h, WriteChannel.reset]

/-- In BLOCK the stop is deferred. -/
theorem requestStop_wch (h : s.wch.phase = .block ∨ s.wch = .reset) : s.requestStop.wch = s.wch := by
  unfold State.requestStop
  split
  · exact defer_wch _ s
  · next hp => rw [h.resolve_left hp]; exact takeStop_wch (h.resolve_left hp)

theorem endEntry_wch (hr : u.host.results.length < 16) (h : EndsList u o c)
    (hw : u.wch.phase = .block ∨ u.wch = .reset) : (u.endEntry o).wch = u.wch := by
  rw [endEntry_listEnd hr h, listEnd_eq]
  split
  · rw [requestStop_wch (by simpa using hw)]
    simp
  · simp

/-! ## STOP (R69) -/

/-- The state in which STOP has been accepted. -/
def stopAccepted (s : State) : State := (s.touch.answer .accepted).setStopInd true

theorem exec_stop (h : s.seq.state = .running) : exec .stop s = .next s.stopAccepted.stopUnit := by
  show Host.Outcome.next s.touch.stopList = _
  simp only [State.stopList, State.touch_seq, h]
  rfl

/-- The unit goes on to its end in STOPPING. -/
theorem exec_stop_stopping (h : s.seq.state = .running)
    (hu : s.stopAccepted.stopUnit = s.stopAccepted.setSeqState .stopping) :
    exec .stop s = .next { s with
      seq := { s.seq with stopInd := true, state := .stopping }
      host := s.host.answered .accepted } := by
  rw [exec_stop h, hu]
  rfl

/-- From `s`, STOP has ended the current entry STOPPED in `t`, the pool then `p`. -/
structure StopEnds (s : State) (p : Pool) (t : State) : Prop where
  exec : Sys2Proof.Machine.exec .stop s = .next t
  list : s.listEndedWith t (s.stopAccepted.buildResult .stopped) .stopped .stopped
  cmdstat : t.host.cmdstat = .accepted
  pool : t.pool = p
  pos : t.pos = s.pos
  stream : t.stream = s.stream
  capture : t.capture = s.capture

/-- The unit is given up, and its entry ends STOPPED. -/
theorem stopEnds (hs : s.seq.state = .running) (hr : s.host.results.length < 16)
    (g : GivenBack s.stopAccepted p u) (hu : s.stopAccepted.stopUnit = u.endEntry .stopped) :
    StopEnds s p (u.endEntry .stopped) := by
  have ended := g.ended hr .stopped
  exact
    { exec := by rw [exec_stop hs, hu]
      list := listEndedWith_congr ended.list rfl rfl rfl
      cmdstat := ended.cmdstat
      pool := ended.pool
      pos := ended.pos
      stream := ended.stream
      capture := ended.capture }

/-- A write unit that has not begun its block gives up the channel; a postamble goes on. -/
theorem giveUpWrite_givenBack (g : GivenBack s p u) :
    GivenBack s p u.giveUpWrite ∧
      u.giveUpWrite.wch = if u.wch.phase = .block then { u.wch with held := none } else .reset := by
  unfold State.giveUpWrite
  split
  · exact ⟨{ g with }, rfl⟩
  · exact ⟨{ g with }, rfl⟩

/-- The write unit that STOP finds before its block. -/
theorem stopUnit_giveUp (hw : (∃ n, s.seq.work = .writeSlot n ∧ (s.slot n).state = .active ∧
      p = { s.pool.put n { s.slot n with state := .queued } with writeQ := n :: s.pool.writeQ }) ∨
      (s.seq.work = .writeMark ∧ p = s.pool)) (hb : s.stopAccepted.blockBegun = false) :
    ∃ u, GivenBack s.stopAccepted p u ∧
      u.wch = (if s.wch.phase = .block then { s.wch with held := none } else .reset) ∧
      s.stopAccepted.stopUnit = u.endEntry .stopped := by
  have work : s.stopAccepted.seq.work = s.seq.work := rfl
  rcases hw with ⟨n, hw, ha, rfl⟩ | ⟨hw, rfl⟩
  · have returned : GivenBack s.stopAccepted
        { s.pool.put n { s.slot n with state := .queued } with writeQ := n :: s.pool.writeQ }
        (s.stopAccepted.setPool (s.stopAccepted.pool.headReturn n)) :=
      { GivenBack.nothing (s := s.stopAccepted) with pool := Pool.headReturn_eq ha }
    obtain ⟨back, wch⟩ := giveUpWrite_givenBack returned
    exact ⟨_, back, wch, by simp only [State.stopUnit, work, hw, hb]; rfl⟩
  · obtain ⟨back, wch⟩ := giveUpWrite_givenBack (GivenBack.nothing (s := s.stopAccepted))
    exact ⟨_, back, wch, by simp only [State.stopUnit, work, hw, hb]; rfl⟩

end State

open State in
/-- Settles O34: the answers by the sequencer state, and in RUNNING whether the unit goes on or is given
up. -/
theorem stopActsByState : Obligations.StopActsByState := by
  refine ⟨?busy, ?stopping, ?noted, ?long, ?begun, ?write, ?pass, ?waits⟩
  case busy =>
    intro s h
    show Host.Outcome.next s.touch.stopList = _
    rcases h with h | h | h <;> simp only [State.stopList, State.touch_seq, h] <;> rfl
  case stopping =>
    intro s h
    show Host.Outcome.next s.touch.stopList = _
    simp only [State.stopList, State.touch_seq, h]
    rfl
  case noted =>
    intro s h
    show Host.Outcome.next s.touch.stopList = _
    rcases h with h | h <;> (conv_lhs => simp only [State.stopList, State.touch_seq, h]) <;> rfl
  case long =>
    intro s hs h
    refine exec_stop_stopping hs ?_
    have work : s.stopAccepted.seq.work = s.seq.work := rfl
    rcases h with h | h | h <;> simp only [State.stopUnit, work, h]
  case begun =>
    intro s hs h
    refine exec_stop_stopping hs ?_
    have work : s.stopAccepted.seq.work = s.seq.work := rfl
    rcases h with ⟨h, begun⟩ | ⟨h, burst⟩
    · have begun : s.stopAccepted.blockBegun = true := by
        show s.blockBegun = true
        rcases begun with ⟨hp, hh⟩ | hp <;> simp [State.blockBegun, *]
      rcases h with ⟨n, h⟩ | h <;> simp only [State.stopUnit, work, h, begun, if_true]
    · have burst : s.stopAccepted.inBurst = true := by
        show s.inBurst = true
        simpa [State.inBurst] using burst
      rcases h with ⟨n, h⟩ | ⟨d, h | h⟩ <;> simp only [State.stopUnit, work, h, burst, if_true]
  case write =>
    intro s p hs hr hw hp
    have notBegun : s.stopAccepted.blockBegun = false := by
      show s.blockBegun = false
      simp only [List.mem_cons, List.not_mem_nil, or_false] at hp
      rcases hp with ⟨hp, held⟩ | hp | hp | hp
      · simpa [State.blockBegun, hp, Option.isSome_iff_ne_none] using held
      all_goals simp [State.blockBegun, hp]
    obtain ⟨u, back, wch, gives⟩ := stopUnit_giveUp hw notBegun
    have ends := stopEnds hs hr back gives
    have kept := endEntry_wch (back.room hr) (back.endsList .stopped) (o := .stopped) (by
      rw [wch]
      split
      · next h => exact .inl h
      · exact .inr rfl)
    refine ⟨_, _, ends.exec, ends.cmdstat, ends.list, rfl, rfl, ends.pool,
      fun h => ?_, fun h => ?_, ends.pos, ends.stream, ends.capture⟩
    · rw [kept, wch, if_pos h]
    · rw [kept, wch, if_neg h]
  case pass =>
    intro s p hs hr silent hw
    have work : s.stopAccepted.seq.work = s.seq.work := rfl
    have quiet : s.stopAccepted.inBurst = false := by
      show s.inBurst = false
      simp [State.inBurst, silent]
    have given : ∃ u, GivenBack s.stopAccepted p u ∧
        s.stopAccepted.stopUnit = u.endEntry .stopped := by
      rcases hw with ⟨n, hw, ha, hx, rfl⟩ | ⟨d, hw, rfl⟩
      · exact ⟨_, (freeActive_left (s := s.stopAccepted) ha hx).givenBack,
          by simp only [State.stopUnit, work, hw, quiet]; rfl⟩
      · refine ⟨_, .nothing, ?_⟩
        rcases hw with hw | hw <;> simp only [State.stopUnit, work, hw, quiet] <;> rfl
    obtain ⟨u, back, gives⟩ := given
    have ends := stopEnds hs hr back gives
    exact ⟨_, _, ends.exec, ends.cmdstat, ends.list, rfl, rfl, ends.pool, ends.pos, ends.stream,
      ends.capture⟩
  case waits =>
    intro s hs hw hr
    have gives : s.stopAccepted.stopUnit = s.stopAccepted.endEntry .stopped := by
      have work : s.stopAccepted.seq.work = s.seq.work := rfl
      rcases hw with hw | hw <;> simp only [State.stopUnit, work, hw]
    have ends := stopEnds hs hr .nothing gives
    obtain ⟨results, outcome, posted, ended, idle, -, cause, listMem, pending⟩ := ends.list
    exact ⟨_, _, ends.exec, results, outcome, rfl, rfl, rfl, ends.cmdstat, posted, ended, idle, cause,
      ends.pool, ends.pos, ends.stream, ends.capture, listMem, pending⟩

end Sys2Proof.Machine
end

section
/-! SUPPORT. ABORT by the sequencer state, and the end of ABORTING (R28, R30, R65 to R67, R72, R73, R94). -/

namespace Sys2Proof.Machine

theorem Transport.atRest_iff (x : Transport) :
    x.atRest = true ↔ x.motion ∈ [.stopped, .noCartridge, .notReady, .fault] := by
  cases h : x.motion <;> simp [Transport.atRest, h]

namespace State

variable {s t u v w : State} {p : Pool} {r : Result}

/-! ## The stop that ABORT asks for (R72, R115, R155, R157) -/

/-- A STOP taken with nothing deferred. -/
theorem takeStop_taken (h : s.xp.deferred = []) : s.stopTaken s.takeStop := by
  unfold State.takeStop
  cases hm : s.xp.motion <;>
    simp [State.stopTaken, Motion.afterStop, hm, h, stopMotion_xp, enterMotion_xp, State.hold,
      State.setUnloadInd, Transport.fastLine]

/-- What is said of the tape after a STOP leaves the blank timer open. -/
theorem stopTaken_congr {b} (h : s.stopTaken t)
    (hu : u.xp = { t.xp with blankTimer := b }) : s.stopTaken u := by
  simpa only [State.stopTaken, hu] using h

/-- The deferred requests taken, and then a STOP: a tape that started or ran stops by its ramp. -/
theorem abortMotion_taken (h : s.xp.motion ∈ [.starting, .running] ∨ s.xp.deferred = []) :
    s.stopTaken s.abortMotion := by
  rcases h with h | h
  · obtain ⟨spentAll, -, spent⟩ := spendDeferred_spent s.channelIdle rfl (channelIdle_moving h)
    obtain ⟨motion, dir, deferred, ramp, kept, -, -, held, -, levels, timing⟩ := takeStop_taken spentAll
    have stops : s.abortMotion.xp.motion = .stopping ∧
        s.abortMotion.xp.rampTimer = some s.xp.timing.stopRamp ∧ s.abortMotion.xp.held = none := by
      have timing : s.channelIdle.spendDeferred.xp.timing = s.xp.timing := spent.timing
      rcases spent.motion with ⟨m, -⟩ | ⟨m, r⟩
      · have m : s.channelIdle.spendDeferred.xp.motion = s.xp.motion := m
        rw [← m] at h
        rw [← timing]
        refine ⟨motion.trans ?_, ramp ?_, held ?_⟩ <;>
          rcases List.mem_pair.mp h with h | h <;> rw [h] <;> decide
      · exact ⟨motion.trans (by rw [m]; rfl), (kept m).trans r, held (by rw [m]; decide)⟩
    refine ⟨?_, dir.trans spent.dir, deferred, fun _ => stops.2.1, ?_, ?_, ?_, fun _ => stops.2.2,
      ?_, levels.trans spent.levels, timing.trans spent.timing⟩
    · rw [stops.1]
      rcases List.mem_pair.mp h with h | h <;> rw [h] <;> rfl
    all_goals intro k; rcases List.mem_pair.mp h with h | h <;> simp [h] at k
  · rw [State.abortMotion, spendDeferred_nil (by exact h)]
    exact takeStop_taken (s := s.channelIdle) h

theorem abortMotion_pos (h : s.xp.motion ∈ [.starting, .running] ∨ s.xp.deferred = []) :
    s.abortMotion.pos = s.posSpent := by
  rw [State.abortMotion, takeStop_pos, spendDeferred_pos h]

theorem abortMotion_wch (h : s.xp.motion ∈ [.starting, .running] ∨ s.xp.deferred = []) :
    s.abortMotion.wch = .reset := by
  refine takeStop_wch ?_
  rcases h with h | h
  · exact (spendDeferred_spent s.channelIdle rfl (channelIdle_moving h)).2.2.wch
  · rw [spendDeferred_nil (by exact h)]
    rfl

/-- What ABORT's stop leaves as it was. -/
theorem abortMotion_keeps (s : State) : s.abortMotion.host = s.host ∧ s.abortMotion.seq = s.seq ∧
    s.abortMotion.pool = s.pool ∧ s.abortMotion.stream = s.stream ∧
      s.abortMotion.capture = s.capture ∧ s.abortMotion.pending = s.pending := by
  simp [State.abortMotion, State.channelIdle]

/-! ## The entry that ABORT ends (R66, R67, R72, R94) -/

/-- The state in which ABORT has been accepted. -/
def abortAccepted (s : State) : State := s.touch.answer .accepted

/-- From `s`, ABORT has dropped what ran in `t`, the pool then `p`: the tape stops, and the channel is
IDLE. -/
structure Dropped (s : State) (p : Pool) (t : State) : Prop where
  cmdstat : t.host.cmdstat = .accepted
  pool : t.pool = p
  wch : t.wch = .reset
  stopInd : t.seq.stopInd = false
  work : t.seq.work = .none
  episode : t.seq.episode = none
  taken : s.stopTaken t
  pos : t.pos = s.posSpent
  stream : t.stream = s.stream
  capture : t.capture = s.capture
  listMem : t.seq.listMem = s.seq.listMem
  pending : t.pending = s.pending

theorem Dropped.joinResult (h : Dropped s p t) (r : Result) : Dropped s p (t.joinResult r) :=
  { h with }

theorem Dropped.stallResult (h : Dropped s p t) (r : Result) : Dropped s p (t.stallResult r) :=
  { h with }

theorem Dropped.listOver (h : Dropped s p t) (c : EndCause) : Dropped s p (t.listOver c) where
  cmdstat := by rw [listOver_host]; exact h.cmdstat
  pool := by simp [h.pool]
  wch := by simp [h.wch]
  stopInd := by simp [h.stopInd]
  work := by simp
  episode := by simp
  taken := stopTaken_congr h.taken (listOver_xp ..)
  pos := by simp [h.pos]
  stream := by simp [h.stream]
  capture := by simp [h.capture]
  listMem := by simp [h.listMem]
  pending := by simp [h.pending]

/-- What ABORT leaves of the running entry before its result is posted. -/
def dropped (s : State) : State :=
  (s.abortMotion.fate.setSeq { s.abortMotion.fate.seq with
    episode := none, stopInd := false, state := .aborting }).setWork .none

theorem abortEntry_eq (s : State) : s.abortEntry =
    if s.dropped.resultRoom then s.dropped.joinResult (s.abortMotion.buildResult .aborted)
    else s.dropped.stallResult (s.abortMotion.buildResult .aborted) := rfl

theorem dropped_dropped (h : s.entryGivesBack p)
    (hm : s.xp.motion ∈ [.starting, .running] ∨ s.xp.deferred = []) :
    Dropped s p s.abortAccepted.dropped ∧ s.abortAccepted.dropped.host.results = s.host.results ∧
      s.abortAccepted.dropped.seq.state = .aborting ∧
      s.abortAccepted.dropped.seq.pendingResult = s.seq.pendingResult := by
  obtain ⟨host, seq, pool, stream, capture, pending⟩ := abortMotion_keeps s.abortAccepted
  obtain ⟨back, wch⟩ := fate_givenBack (entryGivesBack_congr h seq pool stream)
  have taken := abortMotion_taken (s := s.abortAccepted) hm
  obtain ⟨b, xp⟩ := setWork_xp .none (s.abortAccepted.abortMotion.fate.setSeq
    { s.abortAccepted.abortMotion.fate.seq with episode := none, stopInd := false, state := .aborting })
  refine ⟨?_, ?_, ?_, ?_⟩
  constructor
  case taken => exact stopTaken_congr taken (xp.trans (by rw [setSeq_xp, back.xp]))
  all_goals simp only [dropped, setWork_host, setWork_pool, setWork_wch, setWork_seq, setWork_pos,
    setWork_stream, setWork_capture, setWork_pending, setSeq_host, setSeq_pool, setSeq_wch,
    setSeq_seq, setSeq_pos, setSeq_stream, setSeq_capture, setSeq_pending, back.cmdstat, back.pool,
    back.seq, back.pos, back.stream, back.capture, back.pending, back.results, host, seq, stream,
    capture, pending, wch]
  case wch => exact abortMotion_wch (s := s.abortAccepted) hm
  case pos => exact abortMotion_pos (s := s.abortAccepted) hm
  all_goals rfl

theorem exec_abort (h : s.seq.state.entryRuns = true) :
    exec .abort s = .next s.abortAccepted.abortEntry.abortingCheck := by
  show Host.Outcome.next s.touch.abortList = _
  cases hs : s.seq.state <;> simp only [hs, SeqState.entryRuns, reduceCtorEq] at h <;>
    simp only [State.abortList, State.touch_seq, hs] <;> rfl

/-- After a STOP the tape stops by its ramp or is at rest. -/
theorem afterStop_rest (m : Motion) (h : m.afterStop ≠ .stopping) :
    m.afterStop ∈ [.stopped, .noCartridge, .notReady, .fault] := by
  cases m <;> simp_all [Motion.afterStop]

/-- From `s`, ABORT has built the result `r` in `t`: it is posted where there is room, and the list then
ends at rest, or it is held. -/
def AbortPosts (s : State) (r : Result) (t : State) : Prop :=
  (s.host.results.length < 16 →
    t.host.results = s.host.results ++ [r] ∧ t.seq.pendingResult = s.seq.pendingResult ∧
    t.event .resultPosted = true ∧
    (s.xp.motion.afterStop = .stopping → t.seq.state = .aborting) ∧
    (s.xp.motion.afterStop ≠ .stopping → s.seq.pendingResult = none →
      t.seq.state = .idle ∧ t.seq.endCause = .aborted ∧ t.event .listEnded = true)) ∧
  (16 ≤ s.host.results.length →
    t.host.results = s.host.results ∧ t.seq.pendingResult = some r ∧
    t.event .resultStall = true ∧ t.seq.state = .aborting)

/-- The result of what ABORT has dropped in `u` is posted. -/
theorem joinResult_posts (d : Dropped s p u) (hr : u.host.results = s.host.results)
    (hs : u.seq.state = .aborting) (hp : u.seq.pendingResult = s.seq.pendingResult)
    (h : s.host.results.length < 16) (r : Result) :
    Dropped s p (u.joinResult r).abortingCheck ∧ AbortPosts s r (u.joinResult r).abortingCheck := by
  have results : (u.joinResult r).host.results = s.host.results ++ [r] := by rw [← hr]; rfl
  have posted : (u.joinResult r).event .resultPosted = true := by
    rw [State.joinResult, event_raise]
    simp
  have motion := (d.joinResult r).taken.1
  by_cases stops : s.xp.motion.afterStop = .stopping
  · have waits : (u.joinResult r).abortingCheck = u.joinResult r := by
      refine if_neg fun k => ?_
      have rest := (Transport.atRest_iff _).mp k.2.1
      rw [motion, stops] at rest
      revert rest
      decide
    rw [waits]
    exact ⟨d.joinResult r, fun _ => ⟨results, hp, posted, fun _ => hs, fun k => absurd stops k⟩,
      fun k => absurd h (Nat.not_lt.mpr k)⟩
  · have rest : (u.joinResult r).xp.atRest = true :=
      (Transport.atRest_iff _).mpr (by rw [motion]; exact afterStop_rest _ stops)
    by_cases pending : s.seq.pendingResult = none
    · rw [abortingCheck_ends (s := u.joinResult r) hs (hp.trans pending) rest]
      refine ⟨(d.joinResult r).listOver _, fun _ => ⟨?_, ?_, ?_, fun k => absurd k stops,
        fun _ _ => ⟨?_, ?_, ?_⟩⟩, fun k => absurd h (Nat.not_lt.mpr k)⟩
      · rw [listOver_host]; exact results
      · rw [listOver_seq]; exact hp
      · rw [event_flagged .listEnded (listOver_host ..) rfl, posted]; rfl
      · rw [listOver_seq]
      · rw [listOver_seq]
      · rw [event_flagged .listEnded (listOver_host ..) rfl]; simp
    · rw [abortingCheck_pending (s := u.joinResult r) (fun k => pending (hp.symm.trans k))]
      exact ⟨d.joinResult r, fun _ => ⟨results, hp, posted, fun k => absurd k stops,
        fun _ k => absurd k pending⟩, fun k => absurd h (Nat.not_lt.mpr k)⟩

/-- The result of what ABORT has dropped in `u` is posted or held. -/
theorem abortPosts (d : Dropped s p u) (hr : u.host.results = s.host.results)
    (hs : u.seq.state = .aborting) (hp : u.seq.pendingResult = s.seq.pendingResult) (r : Result) :
    Dropped s p (if u.resultRoom then u.joinResult r else u.stallResult r).abortingCheck ∧
      AbortPosts s r (if u.resultRoom then u.joinResult r else u.stallResult r).abortingCheck := by
  have room : u.resultRoom = decide (s.host.results.length < 16) := by
    rw [State.resultRoom, hr]; rfl
  by_cases h : s.host.results.length < 16
  · rw [room, decide_eq_true h, if_pos rfl]
    exact joinResult_posts d hr hs hp h r
  · rw [room, decide_eq_false h, if_neg nofun, abortingCheck_pending (by nofun)]
    refine ⟨d.stallResult r, fun k => absurd k h, fun _ => ⟨hr, rfl, ?_, hs⟩⟩
    rw [State.stallResult, event_raise]
    simp

end State

open State in
/-- Settles O35: the refusals, the entry dropped with its result posted or held, and the list's end at
rest. -/
theorem abortActsByState : Obligations.AbortActsByState := by
  refine ⟨?idle, ?aborting, ?runs, ?postWait, ?ends, ?waits⟩
  case idle =>
    intro s h
    show Host.Outcome.next s.touch.abortList = _
    simp only [State.abortList, State.touch_seq, h]
    rfl
  case aborting =>
    intro s h
    show Host.Outcome.next s.touch.abortList = _
    simp only [State.abortList, State.touch_seq, h]
    rfl
  case runs =>
    intro s p hp hm
    obtain ⟨-, seq, -⟩ := abortMotion_keeps s.abortAccepted
    suffices ∃ t, exec .abort s = .next t ∧ Dropped s p t ∧
        AbortPosts s (s.abortAccepted.abortMotion.buildResult .aborted) t by
      obtain ⟨t, ht, d, room, full⟩ := this
      exact ⟨t, _, ht, d.cmdstat, d.pool, d.wch, d.stopInd, d.work, d.episode, d.taken, rfl,
        congrArg Sequencer.cur seq, congrArg Sequencer.record seq, congrArg Sequencer.cycle seq, room,
        full, d.pos, d.stream, d.capture, d.listMem, d.pending⟩
    rw [exec_abort (entryRuns_of_givesBack hp), abortEntry_eq]
    obtain ⟨dropped, results, state, pendingResult⟩ := dropped_dropped hp hm
    exact ⟨_, rfl, abortPosts dropped results state pendingResult _⟩
  case postWait =>
    intro s r h hr hm
    obtain ⟨host, seq, pool, stream, capture, pending⟩ := abortMotion_keeps s.abortAccepted
    have entered : exec .abort s = .next
        (s.abortAccepted.abortMotion.setSeqState .aborting).abortingCheck := by
      show Host.Outcome.next s.touch.abortList = _
      simp only [State.abortList, State.touch_seq, h]
      rfl
    have waits : (s.abortAccepted.abortMotion.setSeqState .aborting).seq.pendingResult ≠ none := by
      show s.abortAccepted.abortMotion.seq.pendingResult ≠ none
      rw [seq]
      exact ne_of_eq_of_ne hr nofun
    rw [entered, abortingCheck_pending waits]
    refine ⟨_, rfl, host, ?_, abortMotion_wch (s := s.abortAccepted) hm,
      abortMotion_taken (s := s.abortAccepted) hm, pool, abortMotion_pos (s := s.abortAccepted) hm,
      stream, capture, pending⟩
    rw [State.setSeqState, setSeq_seq, seq]
    rfl
  case ends =>
    intro s hs hp hm
    have rest : s.xp.atRest = true := s.xp.atRest_iff.mpr hm
    show Host.Outcome.next s.abortingCheck = _
    rw [abortingCheck_ends hs hp rest, State.listOver, setWork_none]
    rfl
  case waits =>
    intro s h
    refine congrArg Host.Outcome.next (if_neg fun k => ?_)
    obtain ⟨aborting, rest, none⟩ := k
    rcases h with h | h | h
    · exact h aborting
    · exact h none
    · exact h (s.xp.atRest_iff.mp rest)

end Sys2Proof.Machine
end

section
/-! SUPPORT. The blank window (R30, R50 to R52, R64, R128). -/

namespace Sys2Proof.Machine

namespace State

variable {s t u v : State} {p : Pool} {o : EntryOutcome} {c : EndCause}

/-! ## The entry that follows one that ended in STOPPING (R59, R64) -/

theorem entryClosed_setSeqState (o : EntryOutcome) (x : SeqState) (s : State) :
    (s.setSeqState x).entryClosed o = (s.entryClosed o).setSeqState x := by
  rw [entryClosed, entryClosed, setWork_none, setWork_none]
  rfl

/-- An entry that the list goes on from leads to the same from any sequencer state. -/
theorem endEntry_setSeqState (x : SeqState) (hr : s.host.results.length < 16)
    (ht : o.terminal = false) (ho : o ≠ .stopped) (hi : s.seq.stopInd = false)
    (hh : (o.short && s.entry.haltOnShort) = false) (hf : s.entryFollows) :
    (s.setSeqState x).endEntry o = s.endEntry o := by
  have entry : (s.entryClosed o).entry = s.entry := entry_congr (by simp) (by simp)
  have go := goOn_next (s := s.entryClosed o) ht ho (by simpa using hi) (by rwa [entry])
    (by simpa [State.entryFollows] using hf)
  have go' := goOn_next (s := (s.entryClosed o).setSeqState x) ht ho
    (by simpa [State.setSeqState] using hi) (by simpa [entry] using hh)
    (by simpa [State.entryFollows, State.setSeqState] using hf)
  rw [State.endEntry, State.endEntry, settleEntry_room o hr, settleEntry_room o (by exact hr),
    entryClosed_setSeqState, go, go']
  rfl

/-! ## BLANK_MET (R128) -/

theorem exec_blankWindowExpiry (hb : s.xp.blankTimer ≠ none) (hw : s.blankWatched = true) :
    exec .blankWindowExpiry s = .next s.stopBlank.blankMet :=
  congrArg Host.Outcome.next (if_pos ⟨Option.isSome_iff_ne_none.mpr hb, hw⟩)

/-- The unit that meets blank tape gives back its slot. -/
theorem blankMet_gives (hs : s.seq.state ∈ [.running, .stopping])
    (hp : (∃ n, s.seq.work = .read n ∧ (s.slot n).state = .active ∧ s.stream.state ≠ .starved ∧
      p = s.pool.put n SlotRecord.free) ∨
      (s.seq.work ∈ [.space .forward, .seek .forward] ∧ p = s.pool)) :
    ∃ u, GivenBack s p u ∧ u.wch = s.wch ∧ s.blankMet = u.endEntry .blankMet ∧
      (s.seq.work ∈ [.space .forward, .seek .forward] → u.rch = s.rch) := by
  have unit : s.seq.state.unitRuns = true := by
    rcases List.mem_pair.mp hs with h | h <;> rw [h] <;> rfl
  rcases hp with ⟨n, work, ha, hx, rfl⟩ | ⟨work, rfl⟩
  · have left := freeActive_left ha hx
    refine ⟨_, left.givenBack, left.wch, by simp only [State.blankMet, unit, work, if_true], ?_⟩
    simp [work]
  · refine ⟨s, .nothing, rfl, ?_, fun _ => rfl⟩
    rcases List.mem_pair.mp work with h | h <;> simp only [State.blankMet, unit, h, if_true]

end State

open State in
/-- Settles O46: the unit given back, and its entry ended with its list or before the next entry. -/
theorem blankWindowEndsTheEntry : Obligations.BlankWindowEndsTheEntry := by
  refine ⟨?met, fun s h => congrArg Host.Outcome.next (if_neg (by simp [h]))⟩
  intro s p hs hp hm hd hb hr hw
  have watched : s.blankWatched = true := by
    have forward : s.xp.runningForward = true := by simp [Transport.runningForward, hm, hd]
    rcases hp with ⟨n, work, -⟩ | ⟨work, -⟩
    · simp [State.blankWatched, forward, work]
    · rcases List.mem_pair.mp work with h | h <;> simp [State.blankWatched, forward, h]
  obtain ⟨u, back, wch, met, rch⟩ := blankMet_gives (s := s.stopBlank) hs hp
  have idle : u.wch.phase = .idle := by rw [wch]; exact hw
  rw [exec_blankWindowExpiry hb watched, met]
  refine ⟨?ends, ?goesOn⟩
  case ends =>
    intro c hc
    have ends : EndsList s.stopBlank .blankMet c := by
      rcases hc with ⟨rfl, halt | ⟨last, stop⟩⟩ | ⟨rfl, halt, stop⟩
      · exact .short rfl halt
      · exact .last rfl nofun last stop
      · exact .stopInd rfl halt stop
    have ended := back.ended hr ends
    obtain ⟨motion, -⟩ := back.endEntry_stopped hr ends hm (by rw [idle]; nofun)
    refine ⟨_, _, rfl, ended.list, rfl, rfl, motion, ended.pool, ended.pos, ended.stream,
      ended.capture, fun h => ?_⟩
    exact (endEntry_over (back.room hr) (back.endsList ends)).rch.trans (rch h)
  case goesOn =>
    intro w halt stop follows eom
    have handed : Handed (s.setSeqState .running) (u.setSeqState .running) s.seq.record :=
      { runs :=
          { motion := by rw [setSeqState_xp, back.xp]; exact hm
            phase := idle
            state := rfl
            stopInd := (congrArg Sequencer.stopInd back.seq).trans stop
            room := back.room hr }
        seq := ⟨s.seq.work, by rw [State.setSeqState, setSeq_seq, back.seq]; rfl⟩
        results := back.results
        listEnded := back.listEnded
        pending := back.pending }
    have same := endEntry_setSeqState .running (back.room hr) (o := .blankMet) rfl nofun
      (by rw [back.seq]; exact stop) (by rw [back.entry]; exact halt)
      (by simpa only [State.entryFollows, back.seq, stopBlank_seq] using follows.1)
    obtain ⟨went, record, motion, dir, pool, pos, tagMem, stream, capture⟩ :=
      handed.wentOn (o := .blankMet) rfl nofun halt follows
        (by rw [setSeqState_xp, back.xp]; exact hd) (by rw [setSeqState_xp, back.xp]; exact eom)
    rw [same] at went motion dir pool pos tagMem stream capture
    exact ⟨_, _, rfl, went, record, motion, dir, pool.trans back.pool, pos.trans back.pos,
      stream.trans back.stream, capture.trans back.capture, tagMem.trans back.tagMem⟩

end Sys2Proof.Machine
end

section
/-! SUPPORT. How a write unit begins: its slot or mark, its forward motion and its place at the write channel
(R26, R48, R49, R60, R98, R153, R156). -/

namespace Sys2Proof.Machine

namespace State

variable {s t u : State} {n m : SlotNo} {q : List SlotNo} {p : Pool} {w : Work} {v : WUnit}

/-! ## The checks of a write unit (R60, R156) -/

/-- The entry is a WRITE or a MARK. -/
def WriteCode (code : Byte) : Prop := code = 0x01 ∨ code = 0x02

theorem mainOp_of_writeCode {e : ListEntry} (h : WriteCode e.opcode) :
    (e.opcode = 0x01 ∧ e.mainOp = some .write) ∨ (e.opcode = 0x02 ∧ e.mainOp = some .mark) := by
  rcases h with h | h
  · exact .inl ⟨h, by simp [ListEntry.mainOp, h]; decide⟩
  · exact .inr ⟨h, by simp [ListEntry.mainOp, h]; decide⟩

theorem unitCheck_write (hc : WriteCode s.entry.opcode) : s.unitCheck =
    if s.xp.levels.wpermit = false then some .writeProtected
    else if s.pos.zone = .unknown then some .positionUnknown
    else if s.xp.levels.eom then some .eomMet else none := by
  have kind : s.entry.writes = true ∧ s.entry.forward = true := by
    rcases mainOp_of_writeCode hc with ⟨-, h⟩ | ⟨-, h⟩ <;>
      simp [ListEntry.writes, ListEntry.forward, h]
  unfold State.unitCheck State.writeCheck
  rw [kind.1, kind.2]
  cases s.xp.levels.wpermit <;> by_cases hz : s.pos.zone = .unknown <;> simp [hz]

/-- The checks of a write unit pass. -/
structure MayWrite (s : State) : Prop where
  wpermit : s.xp.levels.wpermit = true
  zone : s.pos.zone ≠ .unknown
  eom : s.xp.levels.eom = false

theorem unitCheck_mayWrite (hc : WriteCode s.entry.opcode) (h : s.MayWrite) : s.unitCheck = none := by
  simp [unitCheck_write hc, h.wpermit, h.zone, h.eom]

/-! ## The unit begins (R48, R49, R98, R153) -/

/-- From `s`, a write unit has begun in `t` with the work `w` and the pool `p`, and the tape goes forward.
It has no place at the channel yet. -/
structure UnitBegun (s : State) (w : Work) (p : Pool) (t : State) : Prop where
  motion : t.xp.motion = if s.xp.motion = .stopped then .starting else .running
  dir : t.xp.dir = .forward
  ramp : s.xp.motion = .stopped → t.xp.rampTimer = some s.xp.timing.startRamp
  deferred : t.xp.deferred = s.xp.deferred
  timing : t.xp.timing = s.xp.timing
  levels : t.xp.levels = s.xp.levels
  wch : s.xp.motion = .running → t.wch = s.wch
  phase : t.wch.phase = s.wch.phase
  seq : t.seq = { s.seq with state := .running, work := w }
  pool : t.pool = p
  host : t.host = s.host
  pos : t.pos = s.pos
  stream : t.stream = s.stream
  capture : t.capture = s.capture
  pending : t.pending = s.pending

theorem beginWriteUnit_begun (v : WUnit) (he : s.xp.levels.eom = false) (hm : s.MayForward) :
    ∃ t, (((s.setSeqState .running).setPool p).setWork w).beginWriteUnit v =
        (t.placeUnit { v with framePeriod := t.xp.timing.frameDiv }, .taken) ∧
      UnitBegun s w p t := by
  generalize hx : ((s.setSeqState .running).setPool p).setWork w = x
  obtain ⟨t, request, taken⟩ := requestDir_forward (s := x.takeFramePeriod)
    (by rw [← hx]; simpa using he) (by rw [← hx]; simpa [MayForward] using hm)
  refine ⟨t, by rw [State.beginWriteUnit, request], ?_⟩
  subst hx
  constructor
  case dir => exact taken.dir
  case motion => simpa using taken.motion
  case ramp => simpa using taken.ramp
  case deferred => simpa using taken.deferred
  case timing => simpa using taken.timing
  case levels => simpa using taken.levels
  case wch => simpa [State.takeFramePeriod, State.setSeqState] using taken.wch
  case phase => simpa [State.takeFramePeriod, State.setSeqState] using taken.phase
  case seq => simpa [State.takeFramePeriod, State.setSeqState] using taken.seq
  case pool => simpa [State.takeFramePeriod, State.setSeqState] using taken.pool
  case host => simpa [State.takeFramePeriod, State.setSeqState] using taken.host
  case pos => simpa [State.takeFramePeriod, State.setSeqState] using taken.pos
  case stream => simpa [State.takeFramePeriod, State.setSeqState] using taken.stream
  case capture => simpa [State.takeFramePeriod, State.setSeqState] using taken.capture
  case pending => simpa [State.takeFramePeriod, State.setSeqState] using taken.pending

/-- A WRITE unit takes the head of the write queue and takes its place at the channel. -/
theorem beginUnit_write (hc : s.entry.opcode = 0x01) (h : s.MayWrite) (hm : s.MayForward)
    (hq : s.pool.writeQ = n :: q) :
    ∃ t v, s.beginUnit = (t.placeUnit v, none) ∧
      UnitBegun s (.writeSlot n)
        { s.pool.put n { s.slot n with state := .active, rewritten := false } with writeQ := q } t ∧
      v.target = .slot n ∧ v.tag = (s.slot n).tag ∧ v.reattempt = false ∧
        v.verify = s.entry.verify := by
  have check : (s.setSeqState .running).unitCheck = none :=
    unitCheck_mayWrite (.inl (by rwa [setSeqState_entry])) ⟨h.wpermit, h.zone, h.eom⟩
  have op : s.entry.mainOp = some .write := by
    rcases mainOp_of_writeCode (.inl hc) with ⟨-, h⟩ | ⟨h, -⟩
    · exact h
    · rw [hc] at h; cases h
  have head : (s.setSeqState .running).pool.takeHead =
      { s.pool.put n { s.slot n with state := .active, rewritten := false } with writeQ := q } := by
    show s.pool.takeHead = _
    rw [Pool.takeHead, hq]
    rfl
  generalize hp : ({ s.pool.put n { s.slot n with state := .active, rewritten := false } with
    writeQ := q } : Pool) = p at head ⊢
  obtain ⟨t, begins, begun⟩ := beginWriteUnit_begun (p := p) (w := .writeSlot n)
    (State.slotUnit (((s.setSeqState .running).setPool p).setWork (.writeSlot n)) n false) h.eom hm
  have writes : s.beginUnit = (t.placeUnit { (State.slotUnit
      (((s.setSeqState .running).setPool p).setWork (.writeSlot n)) n false) with
        framePeriod := t.xp.timing.frameDiv }, none) := by
    have queue : (s.setSeqState .running).pool.writeQ = n :: q := hq
    simp only [State.beginUnit, check, setSeqState_entry, op, State.beginWrite, queue, head, begins,
      State.afterRequest]
  refine ⟨t, _, writes, begun, rfl, ?_, rfl, ?_⟩
  · have slot : (State.slot (((s.setSeqState .running).setPool p).setWork (.writeSlot n)) n).tag =
        (s.slot n).tag := by
      rw [State.slot, setWork_pool, setPool_pool, ← hp]
      show ((s.pool.put n _).get n).tag = _
      rw [Pool.get_put, if_pos rfl]
    exact slot
  · show (State.entry _).verify = _
    rw [setWork_entry]
    exact congrArg ListEntry.verify (entry_congr rfl rfl)

/-- A MARK unit takes its place at the channel. -/
theorem beginUnit_mark (hc : s.entry.opcode = 0x02) (h : s.MayWrite) (hm : s.MayForward) :
    ∃ t v, s.beginUnit = (t.placeUnit v, none) ∧ UnitBegun s .writeMark s.pool t ∧
      v.target = .markUnit ∧ v.kind = .mark ∧ v.tag = none ∧ v.reattempt = false ∧
        v.verify = s.entry.verify := by
  have check : (s.setSeqState .running).unitCheck = none :=
    unitCheck_mayWrite (.inr (by rwa [setSeqState_entry])) ⟨h.wpermit, h.zone, h.eom⟩
  have op : s.entry.mainOp = some .mark := by
    rcases mainOp_of_writeCode (.inr hc) with ⟨h, -⟩ | ⟨-, h⟩
    · rw [hc] at h; cases h
    · exact h
  obtain ⟨t, begins, begun⟩ := beginWriteUnit_begun (p := s.pool) (w := .writeMark)
    (State.markUnit ((s.setSeqState .running).setWork .writeMark) none false) h.eom hm
  have same : (s.setSeqState .running).setPool s.pool = s.setSeqState .running := rfl
  rw [same] at begins
  have marks : s.beginUnit = (t.placeUnit { (State.markUnit
      ((s.setSeqState .running).setWork .writeMark) none false) with
        framePeriod := t.xp.timing.frameDiv }, none) := by
    simp only [State.beginUnit, check, setSeqState_entry, op, State.beginMark, begins,
      State.afterRequest]
  refine ⟨t, _, marks, begun, rfl, rfl, rfl, rfl, ?_⟩
  show (State.entry _).verify = _
  rw [setWork_entry, setSeqState_entry]

/-- A unit that fails a check takes no slot. -/
theorem beginUnit_refused {o : EntryOutcome} (hc : (s.setSeqState .running).unitCheck = some o) :
    s.beginUnit = (s.setSeqState .running, some o) := by
  simp only [State.beginUnit, hc]

/-- Where the sequencer runs, it goes on running. -/
theorem setSeqState_same {x : SeqState} (h : s.seq.state = x) : s.setSeqState x = s := by
  rw [← h]
  rfl

theorem serveHead_waiting (hs : s.seq.state = .running) (hw : s.seq.work = .waitHead)
    (hq : s.pool.writeQ ≠ []) : s.serveHead = carryOut s.beginUnit := by
  simp [State.serveHead, State.waitsForHead, hs, hw, hq]

end State

open State in
/-- Settles O25: the head taken, or the entry ended at the check it fails. -/
theorem waitingHeadIsTaken : Obligations.WaitingHeadIsTaken := by
  refine ⟨?taken, ?refused, ?empty, fun s h => congrArg Host.Outcome.next (serveHead_of_work h)⟩
  case taken =>
    intro s n q hs hw hq hc hp hz he hm phase
    obtain ⟨u, v, begins, begun, target, tag, reattempt, verify⟩ :=
      beginUnit_write hc ⟨hp, hz, he⟩ (.inl hm) hq
    have motion : u.xp.motion = .starting := by rw [begun.motion, if_pos hm]
    have waits : u.placeUnit v = u.channelIdle.holdWork (.write v) := by
      have ramps : u.xp.runningForward = false := by simp [Transport.runningForward, motion]
      simp only [State.placeUnit, begun.phase, phase, State.gapOrWait, ramps]
      rfl
    have served : s.serveHead = u.channelIdle.holdWork (.write v) := by
      rw [serveHead_waiting hs hw (by rw [hq]; nofun), begins, waits]
      rfl
    refine ⟨_, v, congrArg Host.Outcome.next served, begun.pool, ?_, motion, begun.dir,
      begun.ramp hm, rfl, target, tag, reattempt, verify, rfl, rfl, rfl, begun.pos, begun.host,
      begun.stream, begun.capture, begun.pending⟩
    show u.seq = _
    rw [begun.seq, ← hs]
  case refused =>
    intro s o hs hw hq hc hr hm fails ho
    have check : s.unitCheck = some o := by
      rw [unitCheck_write (.inl hc), ho]
      split_ifs <;> simp_all
    have terminal : o.terminal = true := by
      rw [ho]
      split_ifs <;> rfl
    have served : s.serveHead = s.endEntry o := by
      rw [serveHead_waiting hs hw hq, beginUnit_refused (by rw [setSeqState_same hs]; exact check),
        setSeqState_same hs]
      rfl
    have ended := (GivenBack.nothing (s := s)).ended hr (.terminal terminal)
    obtain ⟨xp, wch⟩ := endEntry_atRest hr (.terminal terminal) (by simp [Transport.ramping, hm])
    exact ⟨_, _, congrArg Host.Outcome.next served, ended.list, rfl, rfl, ended.pool,
      by rw [xp]; exact hm, wch, ended.pos, ended.stream, ended.capture⟩
  case empty =>
    intro s h
    have none : s.serveHead = s := by simp [State.serveHead, h]
    exact congrArg Host.Outcome.next none

end Sys2Proof.Machine
end

section
/-! SUPPORT. A clean report of the write channel (R27, R48, R49), and how a written block or mark ends on the
tape (R98, R101, R102, R139, R140, R157). -/

namespace Sys2Proof.Machine

namespace State

variable {s t x : State} {n m : SlotNo} {q : List SlotNo} {p p' : Pool} {u v : WUnit} {k : Work}

/-! ## A unit without fault is done (R27, R48, R49) -/

/-- With a slot FREE before, and no STARVED port, the unit's slot becomes FREE and nothing follows. -/
theorem freeActive_quiet (ha : (s.slot n).state = .active) (hf : 0 < s.pool.freeCount)
    (hx : s.stream.state ≠ .starved) : s.freeActive n = s.setPool (s.pool.put n .free) := by
  rw [freeActive_eq ha]
  exact settleFree_same (by exact hx) (by omega)

/-- A CLEAN attempt notes nothing but the unit done. -/
theorem marginalIf_clean : (fun r : EntryRecord => (r.done).marginalIf (WriteClass.clean == .marginal)) =
    EntryRecord.done := by
  funext r
  have plain : (WriteClass.clean == .marginal) = false := rfl
  rw [plain, EntryRecord.marginalIf, Bool.or_false]

theorem writeReport_slot (hs : s.seq.state.unitRuns = true) (hu : u.target = .slot n)
    (ha : (s.slot n).state = .active) (hf : 0 < s.pool.freeCount) (hx : s.stream.state ≠ .starved) :
    s.writeReport u .clean = ((s.setPool (s.pool.put n .free)).record EntryRecord.done).unitOver := by
  simp only [State.writeReport, hs, if_true, WUnit.slot, hu, freeActive_quiet ha hf hx,
    marginalIf_clean]
  rfl

theorem writeReport_mark (hs : s.seq.state.unitRuns = true) (hu : u.target = .markUnit) :
    s.writeReport u .clean = (s.record EntryRecord.done).unitOver := by
  simp only [State.writeReport, hs, if_true, WUnit.slot, hu, marginalIf_clean]
  rfl

/-- The state in which the unit before is over and counted. -/
def counted (p : Pool) (s : State) : State :=
  ((s.setPool p).record EntryRecord.done).setWork .none

/-- The unit reaches the entry's count. -/
theorem counted_last (h : s.entry.count.toNat = s.seq.record.unitsDone + 1) :
    ((s.setPool p).record EntryRecord.done).unitOver = (s.counted p, some .done) := by
  have done := done_unitsDone h
  have entry : ((s.setPool p).record EntryRecord.done).entry = s.entry := entry_congr rfl rfl
  have nonzero : s.entry.count ≠ 0 := by
    intro zero
    rw [zero] at h
    simp at h
  refine unitOver_done (by rw [entry]; exact nonzero) ?_
  rw [entry, h]
  exact (congrArg EntryRecord.unitsDone done).ge

/-- The unit does not reach the entry's count, and the next one begins. -/
theorem counted_next (h : s.unitFollows) :
    ((s.setPool p).record EntryRecord.done).unitOver = (s.counted p).beginUnit := by
  obtain ⟨count, ew, stop⟩ := h
  have entry : ((s.setPool p).record EntryRecord.done).entry = s.entry := entry_congr rfl rfl
  refine unitOver_next ?_ ?_ stop
  · rw [entry]
    exact count.imp id fun h => Nat.lt_of_le_of_lt (bump_le _) h
  · rw [entry]
    exact ew

theorem counted_entry (p : Pool) (s : State) : (s.counted p).entry = s.entry := by
  rw [counted, setWork_entry]
  exact entry_congr rfl rfl

theorem counted_seq (p : Pool) (s : State) : (s.counted p).seq =
    { s.seq with work := .none, record := s.seq.record.done } := by
  rw [counted, setWork_seq]
  rfl

@[simp] theorem counted_xp (p : Pool) (s : State) :
    (s.counted p).xp = { s.xp with blankTimer := none } := by
  rw [counted, setWork_none]
  rfl
@[simp] theorem counted_pool (p : Pool) (s : State) : (s.counted p).pool = p := by
  rw [counted, setWork_pool]
  rfl
@[simp] theorem counted_host (p : Pool) (s : State) : (s.counted p).host = s.host := by
  rw [counted, setWork_host]
  rfl
@[simp] theorem counted_wch (p : Pool) (s : State) : (s.counted p).wch = s.wch := by
  rw [counted, setWork_wch]
  rfl
@[simp] theorem counted_pos (p : Pool) (s : State) : (s.counted p).pos = s.pos := by
  rw [counted, setWork_pos]
  rfl
@[simp] theorem counted_stream (p : Pool) (s : State) : (s.counted p).stream = s.stream := by
  rw [counted, setWork_stream]
  rfl
@[simp] theorem counted_capture (p : Pool) (s : State) : (s.counted p).capture = s.capture := by
  rw [counted, setWork_capture]
  rfl
@[simp] theorem counted_pending (p : Pool) (s : State) : (s.counted p).pending = s.pending := by
  rw [counted, setWork_pending]
  rfl

/-- The entry's last unit is done, and the list with it. -/
theorem counted_ends (h : s.lastEntry) : EndsList (s.counted p) .done .completed :=
  .lastDone (by simpa only [State.lastEntry, counted_seq] using h)

/-- From `s`, the list has ended COMPLETED in `t` with the entry's last unit counted, the pool then
`p`. -/
structure LastDone (s : State) (p : Pool) (t : State) : Prop where
  list : s.listEndedWith t ((s.counted p).buildResult .done) .done .completed
  record : ((s.counted p).buildResult .done).record =
    { s.seq.record with unitsDone := s.seq.record.unitsDone + 1 }
  pool : t.pool = p
  pos : t.pos = s.pos
  stream : t.stream = s.stream
  capture : t.capture = s.capture

theorem counted_lastDone (hc : s.entry.count.toNat = s.seq.record.unitsDone + 1) (hl : s.lastEntry)
    (hr : s.host.results.length < 16) : LastDone s p ((s.counted p).endEntry .done) := by
  have ended := (GivenBack.nothing (s := s.counted p)).ended (by simpa using hr)
    (counted_ends hl)
  exact
    { list := listEndedWith_congr ended.list (by simp) (by simp [counted_seq]) (by simp)
      record := by
        show (s.counted p).seq.record = _
        rw [counted_seq]
        exact done_unitsDone hc
      pool := ended.pool.trans (by simp)
      pos := ended.pos.trans (by simp)
      stream := ended.stream.trans (by simp)
      capture := ended.capture.trans (by simp) }

/-- The unit that follows has begun where the unit before was counted. -/
theorem UnitBegun.seq_unitDone (h : UnitBegun (s.counted p) k p' t) (hs : s.seq.state = .running) :
    t.seq = s.seq.unitDone k := by
  rw [h.seq, counted_seq]
  simp only [Sequencer.unitDone, EntryRecord.done, ← hs]

/-- A slot's unit without fault was its entry's last. -/
theorem writeReport_slot_last (hs : s.seq.state.unitRuns = true) (hu : u.target = .slot n)
    (ha : (s.slot n).state = .active) (hf : 0 < s.pool.freeCount) (hx : s.stream.state ≠ .starved)
    (hc : s.entry.count.toNat = s.seq.record.unitsDone + 1) :
    carryOut (s.writeReport u .clean) = (s.counted (s.pool.put n .free)).endEntry .done := by
  rw [writeReport_slot hs hu ha hf hx, counted_last hc]
  rfl

/-- From `s`, the unit before is counted in `t` and the next one has begun on the running tape, with the
work `k` and the pool `p`. It has no place at the channel yet. -/
structure NextBegun (s : State) (k : Work) (p : Pool) (t : State) : Prop where
  seq : t.seq = s.seq.unitDone k
  pool : t.pool = p
  motion : t.xp.motion = .running
  dir : t.xp.dir = .forward
  deferred : t.xp.deferred = s.xp.deferred
  levels : t.xp.levels = s.xp.levels
  wch : t.wch = s.wch
  host : t.host = s.host
  pos : t.pos = s.pos
  stream : t.stream = s.stream
  capture : t.capture = s.capture
  pending : t.pending = s.pending

theorem UnitBegun.next (h : UnitBegun (s.counted p) k p' t) (hs : s.seq.state = .running)
    (hm : s.xp.motion = .running) : NextBegun s k p' t where
  seq := h.seq_unitDone hs
  pool := h.pool
  motion := by rw [h.motion, counted_xp, hm]; rfl
  dir := h.dir
  deferred := by simp [h.deferred]
  levels := by simp [h.levels]
  wch := by simp [h.wch (by simpa using hm)]
  host := by simp [h.host]
  pos := by simp [h.pos]
  stream := by simp [h.stream]
  capture := by simp [h.capture]
  pending := by simp [h.pending]

theorem counted_mayWrite (h : s.MayWrite) (p : Pool) : (s.counted p).MayWrite :=
  ⟨by simpa using h.wpermit, by simpa using h.zone, by simpa using h.eom⟩

/-- A slot's unit without fault is followed by the unit of the write queue's head. -/
theorem writeReport_slot_next (hs : s.seq.state = .running) (hu : u.target = .slot n)
    (ha : (s.slot n).state = .active) (hf : 0 < s.pool.freeCount) (hx : s.stream.state ≠ .starved)
    (h : s.unitFollows) (hc : s.entry.opcode = 0x01) (hw : s.MayWrite) (hm : s.xp.motion = .running)
    (hd : s.xp.dir = .forward) (hq : s.pool.writeQ = m :: q) (hmn : m ≠ n) :
    ∃ t v, carryOut (s.writeReport u .clean) = t.placeUnit v ∧
      NextBegun s (.writeSlot m) { (s.pool.put n SlotRecord.free).put m
        { s.slot m with state := .active, rewritten := false } with writeQ := q } t ∧
      v.target = .slot m ∧ v.tag = (s.slot m).tag ∧ v.reattempt = false ∧
        v.verify = s.entry.verify := by
  have other : (s.counted (s.pool.put n .free)).slot m = s.slot m := by
    rw [State.slot, counted_pool, Pool.get_put, if_neg hmn]
    rfl
  obtain ⟨t, v, begins, begun, target, tag, reattempt, verify⟩ := beginUnit_write
    (s := s.counted (s.pool.put n .free)) (by rw [counted_entry]; exact hc) (counted_mayWrite hw _)
    (.inr ⟨by simpa using hm, by simpa using hd⟩) (by simpa using hq)
  rw [counted_pool, other] at begun
  refine ⟨t, v, ?_, begun.next hs hm, target, by rw [tag, other], reattempt, ?_⟩
  · rw [writeReport_slot (by rw [hs]; rfl) hu ha hf hx, counted_next h, begins]
    rfl
  · rw [verify, counted_entry]

/-! ## The check group (R101, R139, R140) -/

theorem exec_checkGroup (hp : s.wch.phase = .block) (hc : s.wch.checkWritten = false)
    (hu : s.wch.unit = some u) : exec .checkGroupWritten s = .next
      (if u.verify then s.blockOnTape u else carryOut ((s.blockOnTape u).writeReport u .clean)) := by
  show execCheckGroupWritten s = _
  simp only [execCheckGroupWritten, hu, hp, hc, and_self, if_true]

/-- A written DATA block is counted, and truncates the file map. -/
theorem forwardReport_data {P : Position} {f b : Nat} (hz : P.zone ≠ .unknown)
    (hf : P.file = some f) (hb : P.block = some b) : Position.forwardReport true .data P =
      { P with
        block := if b < 65535 then some (b + 1) else none
        map := P.map.filter (fun e => e.1 < f) } := by
  simp [Position.forwardReport, Position.forwardBlock, hz, Position.truncate, hf, hb, mapTruncate,
    blockUp, Config.positionMax]
  rfl

/-- A written mark truncates the file map, inserts the file it ends, and begins the next file. -/
theorem forwardReport_mark {P : Position} {f b : Nat} (hz : P.zone ≠ .unknown)
    (hf : P.file = some f) (hm : f < 65535) (hb : P.block = some b) :
    Position.forwardReport true .mark P = { P with
      file := some (f + 1), block := some 0
      map := mapInsert (P.map.filter (fun e => e.1 < f)) f b } := by
  simp [Position.forwardReport, Position.forwardMark, hz, Position.truncate, hf, hb, mapTruncate,
    hm, Config.positionMax]

/-- The state in which the check group has been counted at the position `P`. -/
theorem blockOnTape_eq {P : Position} (hp : Position.forwardReport true u.kind s.pos = P) :
    s.blockOnTape u = { s with
      wch := { s.wch with
        checkWritten := true
        verify := s.wch.verify.map (fun v => { v with written := v.frames.length - 6 }) }
      pos := P } := by
  rw [← hp]
  rfl

/-! ## The postamble (R98, R102, R157) -/

theorem exec_postamble (hp : s.wch.phase = .block) (hc : s.wch.checkWritten = true)
    (hu : s.wch.unit = some u) : exec .postambleWritten s = .next (s.postambleDone u) := by
  show execPostambleWritten s = _
  simp only [execPostambleWritten, hu, hp, hc, and_self, if_true]

theorem blockLeft_nil (h : s.xp.deferred = []) : s.blockLeft = s := if_pos h

/-- A deferred STOP is taken as the channel leaves BLOCK; with no entry that asks for forward motion the
tape stops by its ramp. -/
theorem blockLeft_stop (hd : s.xp.deferred = [.stop]) (hp : s.wch.phase ≠ .block)
    (hm : s.xp.motion = .running)
    (hw : s.seq.state.entryRuns = false ∨ s.seq.work = .none) :
    s.blockLeft = ((s.setDeferred []).stopMotion).hold none := by
  have some : s.xp.deferred ≠ [] := by rw [hd]; nofun
  have taken : s.takeDeferred = ((s.setDeferred []).stopMotion).hold none := by
    rw [State.takeDeferred, if_neg hp, hd]
    exact takeStop_moving (s := s.setDeferred []) (by simp [hm])
  have seq : (((s.setDeferred []).stopMotion).hold none).seq = s.seq := by simp
  rw [State.blockLeft, if_neg some, taken, State.askForward]
  refine if_neg ?_
  rw [seq]
  rcases hw with h | h <;> simp [h, Work.asks]

end State

open State in
/-- Settles O38: the check group counted, what becomes of its unit, and the postamble's end. -/
theorem blockEndsOnTheTape : Obligations.BlockEndsOnTheTape := by
  refine ⟨?data, ?mark, ?done, ?stops, ?after, ?frees, ?afterStops, ?other⟩
  case data =>
    intro s u f b hp hc hu hv hk hz hf hb
    rw [exec_checkGroup hp hc hu, if_pos hv]
    exact congrArg Host.Outcome.next (blockOnTape_eq (by rw [hk]; exact forwardReport_data hz hf hb))
  case mark =>
    intro s u f b hp hc hu hv hk hz hf hm hb
    rw [exec_checkGroup hp hc hu, if_pos hv]
    exact congrArg Host.Outcome.next
      (blockOnTape_eq (by rw [hk]; exact forwardReport_mark hz hf hm hb))
  case done =>
    intro s u n f b P W hp hc hu hv hk ht hz hf hb hP hW hs hw ha hfree hx hm hd hdef
    have tape : s.blockOnTape u = { s with wch := W, pos := P } := by
      rw [hW]
      exact blockOnTape_eq (by rw [hk, hP]; exact forwardReport_data hz hf hb)
    have block : W.phase = .block := by rw [hW]; exact hp
    have running : s.seq.state.unitRuns = true := by rw [hs]; rfl
    rw [exec_checkGroup hp hc hu, if_neg (by rw [hv]; nofun), tape]
    generalize hy : ({ s with wch := W, pos := P } : State) = y
    refine ⟨fun last count room => ?ends, fun m q follows hq hmn hc permit eom => ?next⟩
    case ends =>
      have done := counted_lastDone (s := y) (p := y.pool.put n .free) (by subst hy; exact count)
        (by subst hy; exact last) (by subst hy; exact room)
      have deferred := endEntry_deferred (u := y.counted (y.pool.put n .free))
        (by subst hy; simpa using room) (counted_ends (by subst hy; exact last))
        (by subst hy; simp [Transport.ramping, hm]) (by subst hy; simpa using block)
      rw [writeReport_slot_last (by subst hy; exact running) ht (by subst hy; exact ha)
        (by subst hy; exact hfree) (by subst hy; exact hx) (by subst hy; exact count)]
      generalize (y.counted (y.pool.put n .free)).endEntry .done = t at done deferred ⊢
      obtain ⟨xp, wch⟩ := deferred
      subst hy
      refine ⟨t, _, rfl, done.list, done.record, done.pool, done.pos, ?_, ?_, ?_, done.stream,
        done.capture⟩
      · simpa using wch
      · rw [xp]; simp [hm]
      · rw [xp]; simp [hdef]
    case next =>
      obtain ⟨t, v, report, begun, target, tag, reattempt, verify⟩ := writeReport_slot_next (s := y)
        (by subst hy; exact hs) ht (by subst hy; exact ha) (by subst hy; exact hfree)
        (by subst hy; exact hx) (by subst hy; exact follows) (by subst hy; exact hc)
        (by subst hy; exact ⟨permit, by rw [hP]; exact hz, eom⟩) (by subst hy; exact hm)
        (by subst hy; exact hd) (by subst hy; exact hq) hmn
      subst hy
      have placed : t.placeUnit v = t.holdWork (.write v) := by
        simp only [State.placeUnit, begun.wch, block]
      rw [report, placed]
      refine ⟨_, v, rfl, begun.seq, begun.pool, ?_, target, tag, reattempt, verify, begun.motion,
        begun.deferred.trans hdef, begun.pos, begun.host, begun.stream, begun.capture, begun.pending⟩
      rw [State.holdWork, setWch_wch, begun.wch]
  case stops =>
    intro s u hp hc hu hv hd hm hs hh
    have idle : s.seq.state.entryRuns = false := by rw [hs]; rfl
    have left := blockLeft_stop (s := s.enterAfter u) hd nofun hm (.inl idle)
    have frees : s.postambleDone u = (s.enterAfter u).blockLeft.channelIdle := by
      have free : (s.enterAfter u).blockLeft.takeOverAfter = (s.enterAfter u).blockLeft := by
        have none : (s.enterAfter u).blockLeft.wch.held = .none := by
          rw [left, hold_wch, stopMotion_wch]
          exact hh
        simp only [State.takeOverAfter, none]
      have ended : (s.enterAfter u).blockLeft.wch.phase = .after ∧
          (s.enterAfter u).blockLeft.wch.verify = none := by
        rw [left, hold_wch, stopMotion_wch]
        exact ⟨rfl, by simp [State.enterAfter, hv]⟩
      rw [State.postambleDone]
      simp only [hv, free, State.settleChannel, ended, Bool.false_eq_true, if_false, if_true]
    rw [exec_postamble hp hc hu, frees, left]
    refine ⟨_, rfl, rfl, ?_⟩
    simp [State.channelIdle, State.hold, stopMotion_xp, State.enterAfter]
  case after =>
    intro s u hp hc hu hv hd
    rw [exec_postamble hp hc hu, State.postambleDone, blockLeft_nil (by exact hd), if_pos hv]
    simp only [State.enterAfter, hv, if_true]
    rfl
  case frees =>
    intro s u hp hc hu hv hd
    have after : s.postambleDone u = (s.enterAfter u).takeOverAfter.settleChannel := by
      rw [State.postambleDone, blockLeft_nil (by exact hd), if_neg (by rw [hv]; nofun)]
    have verify : (s.enterAfter u).wch.verify = none := by simp [State.enterAfter, hv]
    rw [exec_postamble hp hc hu, after]
    refine ⟨fun hh => ?_, fun w hh hm hdir => ?_⟩
    · have none : (s.enterAfter u).wch.held = .none := hh
      have free : (s.enterAfter u).takeOverAfter = s.enterAfter u := by
        simp only [State.takeOverAfter, none]
      rw [free, State.settleChannel]
      have phase : (s.enterAfter u).wch.phase = .after := rfl
      simp only [phase, verify, if_true]
      rfl
    · have held : (s.enterAfter u).wch.held = .some (.write w) := hh
      have forward : (s.enterAfter u).xp.runningForward = true := by
        show s.xp.runningForward = true
        simp [Transport.runningForward, hm, hdir]
      have taken : (s.enterAfter u).takeOverAfter = (s.enterAfter u).continueGap w := by
        simp only [State.takeOverAfter, held, forward, if_true]
      rw [taken]
      exact ⟨_, rfl, rfl, rfl, rfl, rfl, rfl, rfl, rfl⟩
  case afterStops =>
    intro s u hp hc hu hv hd hm hw
    rw [exec_postamble hp hc hu, State.postambleDone, if_pos hv,
      blockLeft_stop (s := s.enterAfter u) hd nofun hm (.inr hw)]
    refine ⟨_, rfl, ?_⟩
    simp [State.hold, stopMotion_xp, stopMotion_wch, State.enterAfter]
  case other =>
    intro s hp
    constructor
    · show execCheckGroupWritten s = _
      simp only [execCheckGroupWritten]
      split
      · rfl
      · rw [if_neg (fun h => hp h.1)]
    · show execPostambleWritten s = _
      simp only [execPostambleWritten]
      split
      · rfl
      · rw [if_neg (fun h => hp h.1)]

end Sys2Proof.Machine
end

section
/-! SUPPORT. The end of a read-back of GOOD frames alone, and what follows it at the channel (R53, R87, R98, R99,
R103 to R107, R109). -/

namespace Sys2Proof.Machine

/-- Beyond the block a silent row is GOOD (R104). -/
theorem Verify.judgeRow_beyond {v : Verify} {i : Nat} (x : Row) (h : v.frames.length ≤ i) :
    v.judgeRow i x silentRow = .good := by
  rw [Verify.judgeRow, if_neg (Nat.not_lt.mpr h), if_pos rfl]

/-- One silent row more ends the verify burst, in which every frame was GOOD (R103 to R105). -/
structure Verify.CleanDue (v : Verify) : Prop where
  watch : v.watch = .sensing
  weak : v.weak = false
  bad : v.bad = false
  captureTaken : v.captureTaken = false
  silentRun : 0 < v.silentRun
  lastSilent : v.lastSilent = true
  compared : v.compared = v.frames.length + v.silentRun
  silence : v.silence.toNat ≤ v.silentRun + 1

/-- The verify record once the last silent row is compared. -/
def Verify.lastRow (v : Verify) : Verify :=
  { v with compared := v.compared + 1, lastSilent := true, silentRun := v.silentRun + 1 }

/-- The verify record once that row has ended the watch, the silent run then no rows of the burst. -/
def Verify.closed (v : Verify) : Verify :=
  { v.lastRow with watch := .ended, compared := v.frames.length }

theorem Verify.CleanDue.class_closed {v : Verify} (h : v.CleanDue) : v.closed.class = .clean := by
  simp [Verify.class, Verify.closed, Verify.lastRow, h.bad, h.weak]

namespace State

variable {s t : State} {n m : SlotNo} {q : List SlotNo} {p p' : Pool} {u w : WUnit} {v : Verify}

/-! ## The last silent row (R103 to R105) -/

/-- A silent row beyond the block is compared and changes no finding. -/
theorem compareRow_silent (x : Row) (hv : s.wch.verify = some v) (h : v.CleanDue) :
    s.compareRow x silentRow =
      s.setWch { s.wch with verify := some { v with compared := v.compared + 1 } } := by
  have good : v.judgeRow v.compared x silentRow = .good :=
    Verify.judgeRow_beyond x (by rw [h.compared]; omega)
  have weak : (v.weak || (VerifyFinding.good == .weak)) = v.weak := Bool.or_false _
  have bad : (v.bad || (VerifyFinding.good == .bad)) = v.bad := Bool.or_false _
  simp only [State.compareRow, hv, good, ne_eq, not_true_eq_false, false_and, if_false,
    Option.map_some, weak, bad]

/-- The silent row is the last of the silent run. -/
theorem verifyRow_last (x : Row) (hv : s.wch.verify = some v) (h : v.CleanDue) :
    s.verifyRow x silentRow = (s.setWch { s.wch with verify := some v.lastRow }, true) := by
  simp only [State.verifyRow, hv, h.watch, compareRow_silent x hv h, setWch_wch, Option.map_some,
    Verify.afterRow, Verify.lastRow, h.lastSilent, h.silentRun, if_true,
    decide_eq_true h.silence]
  rfl

/-- No frame is missing as the watch ends. -/
theorem endWatch_last (hv : s.wch.verify = some v.lastRow) (h : v.CleanDue) : s.endWatch =
    s.setWch { s.wch with watchTimer := none, deadline := none, verify := some v.closed } := by
  have frames : v.lastRow.compared - v.lastRow.silentRun = v.frames.length := by
    show v.compared + 1 - (v.silentRun + 1) = _
    rw [h.compared]
    omega
  have length : v.lastRow.frames.length = v.frames.length := rfl
  simp only [State.endWatch, hv, frames, length, lt_irrefl, false_and, if_false, decide_false,
    Bool.or_false, Option.map_some]
  rfl

/-- The read-back of the unit `u` is over with the class CLEAN, which its slot takes. -/
def readBackOver (u : WUnit) (s : State) : State :=
  (match u.target with
    | .slot n => s.editSlot n (fun r => { r with wclass := some .clean })
    | .markUnit => s).setWch { s.wch with verify := none, watchTimer := none, deadline := none }

theorem classifyVerify_clean (hu : s.wch.unit = some u) (hv : s.wch.verify = some v)
    (hc : v.class = .clean) (ht : v.captureTaken = false) : s.classifyVerify =
      (carryOut ((s.readBackOver u).writeReport u .clean)).settleChannel := by
  simp only [State.classifyVerify, hu, hv, hc, State.recordClass, ht]
  cases k : u.target <;> simp only [State.readBackOver, k] <;> rfl

@[simp] theorem readBackOver_wch (u : WUnit) (s : State) : (s.readBackOver u).wch =
    { s.wch with verify := none, watchTimer := none, deadline := none } := rfl
@[simp] theorem readBackOver_seq (u : WUnit) (s : State) : (s.readBackOver u).seq = s.seq := by
  unfold readBackOver
  split <;> rfl
@[simp] theorem readBackOver_xp (u : WUnit) (s : State) : (s.readBackOver u).xp = s.xp := by
  unfold readBackOver
  split <;> rfl
@[simp] theorem readBackOver_host (u : WUnit) (s : State) : (s.readBackOver u).host = s.host := by
  unfold readBackOver
  split <;> rfl
@[simp] theorem readBackOver_pos (u : WUnit) (s : State) : (s.readBackOver u).pos = s.pos := by
  unfold readBackOver
  split <;> rfl
@[simp] theorem readBackOver_stream (u : WUnit) (s : State) :
    (s.readBackOver u).stream = s.stream := by
  unfold readBackOver
  split <;> rfl
@[simp] theorem readBackOver_capture (u : WUnit) (s : State) :
    (s.readBackOver u).capture = s.capture := by
  unfold readBackOver
  split <;> rfl
@[simp] theorem readBackOver_pending (u : WUnit) (s : State) :
    (s.readBackOver u).pending = s.pending := by
  unfold readBackOver
  split <;> rfl

theorem readBackOver_entry (u : WUnit) (s : State) : (s.readBackOver u).entry = s.entry :=
  entry_congr (by rw [readBackOver_seq]) (by rw [readBackOver_seq])

theorem readBackOver_mark (hu : u.target = .markUnit) : (s.readBackOver u).pool = s.pool := by
  simp only [readBackOver, hu]
  rfl

/-- The slot takes its class, and is ACTIVE as before. -/
theorem readBackOver_slot (hu : u.target = .slot n) : (s.readBackOver u).pool =
    s.pool.put n { s.slot n with wclass := some .clean } := by
  simp only [readBackOver, hu]
  rfl

theorem readBackOver_active (hu : u.target = .slot n) (ha : (s.slot n).state = .active) :
    ((s.readBackOver u).slot n).state = .active := by
  rw [State.slot, readBackOver_slot hu, Pool.get_put, if_pos rfl]
  exact ha

theorem readBackOver_other (hu : u.target = .slot n) (hm : m ≠ n) :
    (s.readBackOver u).slot m = s.slot m := by
  rw [State.slot, readBackOver_slot hu, Pool.get_put, if_neg hm]
  rfl

theorem readBackOver_freeCount (hu : u.target = .slot n) (ha : (s.slot n).state = .active) :
    (s.readBackOver u).pool.freeCount = s.pool.freeCount := by
  have used : (s.pool.get n).state ≠ .free := by
    show (s.slot n).state ≠ .free
    rw [ha]
    nofun
  rw [readBackOver_slot hu]
  exact Pool.freeCount_put_used used used

/-- The slot that becomes FREE loses its class too. -/
theorem readBackOver_free (hu : u.target = .slot n) :
    (s.readBackOver u).pool.put n .free = s.pool.put n .free := by
  rw [readBackOver_slot hu, Pool.put_put]

theorem readBackOver_writeQ (u : WUnit) (s : State) :
    (s.readBackOver u).pool.writeQ = s.pool.writeQ := by
  unfold readBackOver
  split <;> rfl

/-- The last silent row ends the watch, and the unit is reported CLEAN (R105, R107). -/
theorem watchRow_last (x : Row) (hu : s.wch.unit = some u) (hv : s.wch.verify = some v)
    (h : v.CleanDue) : s.watchRow x silentRow =
      (carryOut ((s.readBackOver u).writeReport u .clean)).settleChannel := by
  have ends := endWatch_last (s := s.setWch { s.wch with verify := some v.lastRow }) rfl h
  have row : s.watchRow x silentRow =
      (s.setWch { s.wch with verify := some v.lastRow }).endWatch.classifyVerify := by
    simp only [State.watchRow, verifyRow_last x hv h]
  have same : State.readBackOver u (s.setWch { s.wch with verify := some v.lastRow }).endWatch =
      s.readBackOver u := by
    rw [ends]
    cases k : u.target <;> simp only [State.readBackOver, k] <;> rfl
  rw [row, ← same]
  exact classifyVerify_clean (by rw [ends]; exact hu) (by rw [ends]; rfl) h.class_closed
    h.captureTaken

theorem cleanDue_iff (u : WUnit) : s.cleanRowDue u ↔ ∃ v, s.wch.phase = .after ∧
    s.wch.unit = some u ∧ s.wch.verify = some v ∧ v.CleanDue :=
  exists_congr fun _ =>
    ⟨fun ⟨h1, h2, h3, a, b, c, d, e, f, g, i⟩ => ⟨h1, h2, h3, a, b, c, d, e, f, g, i⟩,
      fun ⟨h1, h2, h3, a, b, c, d, e, f, g, i⟩ => ⟨h1, h2, h3, a, b, c, d, e, f, g, i⟩⟩

theorem exec_cleanRow (x : Row) (h : s.cleanRowDue u) (hm : s.xp.motion = .running) :
    exec (.readHeadRow x silentRow) s = .next
      (carryOut ((s.readBackOver u).writeReport u .clean)).settleChannel := by
  obtain ⟨v, phase, unit, verify, due⟩ := (cleanDue_iff u).mp h
  have listening : s.xp.listening = true := Transport.listening_of_motion (by simp [hm])
  show execReadHeadRow x silentRow s = _
  simp only [execReadHeadRow, listening, phase, if_true, reduceCtorEq, if_false,
    watchRow_last x unit verify due]

/-! ## The channel's end and the next unit's place (R98, R99, R107) -/

/-- With nothing left to verify the channel returns to IDLE. -/
theorem settleChannel_after (hp : s.wch.phase = .after) (hv : s.wch.verify = none) :
    s.settleChannel = s.channelIdle := by
  simp only [State.settleChannel, hp, hv, if_true]

/-- A channel that has work goes on with it. -/
theorem settleChannel_busy (hp : s.wch.phase = .gap ∨ s.wch.phase = .block) : s.settleChannel = s := by
  rcases hp with hp | hp <;> simp only [State.settleChannel, hp]

/-- The state in which the unit's gap goes on under the erase gate. -/
def gapGoesOn (w : WUnit) (s : State) : State :=
  s.setWch { s.wch with
    phase := .gap, unit := some w, held := none, checkWritten := false, wgate := false, verify := none }

theorem placeUnit_after (hp : s.wch.phase = .after) (hr : s.wch.run = true) :
    s.placeUnit w = if s.wch.gapTimer = .ranOut then (s.gapGoesOn w).openBlock
      else s.gapGoesOn w := by
  simp only [State.placeUnit, hp, hr, if_true]
  rfl

/-- A slot's block opens for the first time. -/
theorem openBlock_slot (hu : s.wch.unit = some w) (hg : s.mayGate = true) (ht : w.target = .slot n)
    (hr : w.reattempt = false) : s.openBlock = s.setWch { s.wch with
      phase := .block
      unit := some w
      checkWritten := false
      wgate := true
      gapTimer := .stopped
      watchTimer := if w.verify then some s.xp.timing.verifyLag else none
      deadline := none
      verify := some (.ofFrames (blockFrames (s.unitHeader w) (s.unitData w))) } := by
  have tag : s.takeMarkTag w = (s, w) := by
    rw [State.takeMarkTag, if_neg]
    simp [ht]
  have written : s.markRewritten w = s := by
    simp only [State.markRewritten, ht, hr, Bool.false_eq_true, if_false]
  simp only [State.openBlock, hu, hg, if_true, tag, written]

/-- From `s`, the next unit `w` is in its place at the channel in `t`: its gap goes on, or its block has
opened. -/
structure Placed (s : State) (w : WUnit) (t : State) : Prop where
  rest : t = s.setWch t.wch
  unit : t.wch.unit = some w
  egate : t.wch.egate = s.wch.egate
  run : t.wch.run = true
  gap : ∀ g, s.wch.gapTimer = .running g →
    t.wch.phase = .gap ∧ t.wch.wgate = false ∧ t.wch.gapTimer = .running g
  block : s.wch.gapTimer = .ranOut → t.wch.phase = .block ∧ t.wch.wgate = true

/-- A slot's unit takes its place. -/
theorem placed_slot (hp : s.wch.phase = .after) (hr : s.wch.run = true) (hg : s.mayGate = true)
    (ht : w.target = .slot n) (ha : w.reattempt = false) :
    Placed s w (s.placeUnit w).settleChannel := by
  rw [placeUnit_after hp hr]
  by_cases out : s.wch.gapTimer = .ranOut
  · have opens := openBlock_slot (s := s.gapGoesOn w) rfl hg ht ha
    rw [if_pos out, settleChannel_busy (by rw [opens]; exact .inr rfl), opens]
    exact ⟨rfl, rfl, rfl, hr, fun _ k => (nomatch out.symm.trans k), fun _ => ⟨rfl, rfl⟩⟩
  · rw [if_neg out, settleChannel_busy (.inl rfl)]
    exact ⟨rfl, rfl, rfl, hr, fun g k => ⟨rfl, rfl, k⟩, fun k => absurd k out⟩

/-- A unit whose gap timer still runs takes its place. -/
theorem placed_gap (hp : s.wch.phase = .after) (hr : s.wch.run = true) {g : Byte}
    (hg : s.wch.gapTimer = .running g) : Placed s w (s.placeUnit w).settleChannel := by
  have runs : s.wch.gapTimer ≠ .ranOut := by rw [hg]; nofun
  rw [placeUnit_after hp hr, if_neg runs, settleChannel_busy (.inl rfl)]
  exact ⟨rfl, rfl, rfl, hr, fun g k => ⟨rfl, rfl, k⟩, fun k => absurd k runs⟩

/-! ## What follows the unit that is done (R26, R49, R87, R109) -/

/-- A mark of a MARK entry is followed by the next one. -/
theorem writeReport_mark_next (hs : s.seq.state = .running) (hu : u.target = .markUnit)
    (h : s.unitFollows) (hc : s.entry.opcode = 0x02) (hw : s.MayWrite) (hm : s.xp.motion = .running)
    (hd : s.xp.dir = .forward) :
    ∃ t v, carryOut (s.writeReport u .clean) = t.placeUnit v ∧ NextBegun s .writeMark s.pool t ∧
      v.target = .markUnit ∧ v.kind = .mark ∧ v.tag = none ∧ v.reattempt = false := by
  obtain ⟨t, v, begins, begun, target, kind, tag, reattempt, -⟩ := beginUnit_mark
    (s := s.counted s.pool) (by rw [counted_entry]; exact hc) (counted_mayWrite hw _)
    (.inr ⟨by simpa using hm, by simpa using hd⟩)
  rw [counted_pool] at begun
  refine ⟨t, v, ?_, begun.next hs hm, target, kind, tag, reattempt⟩
  have report : s.writeReport u .clean =
      ((s.setPool s.pool).record EntryRecord.done).unitOver :=
    writeReport_mark (by rw [hs]; rfl) hu
  rw [report, counted_next h, begins]
  rfl

/-- With the write queue empty the WRITE unit waits for its head, the idle report sent. -/
theorem beginUnit_waits (hc : s.entry.opcode = 0x01) (h : s.MayWrite) (hq : s.pool.writeQ = []) :
    s.beginUnit = (((s.setSeqState .running).setWork .waitHead).idleReport, none) := by
  have check : (s.setSeqState .running).unitCheck = none :=
    unitCheck_mayWrite (.inl (by rwa [setSeqState_entry])) ⟨h.wpermit, h.zone, h.eom⟩
  have op : s.entry.mainOp = some .write := by
    rcases mainOp_of_writeCode (.inl hc) with ⟨-, h⟩ | ⟨h, -⟩
    · exact h
    · rw [hc] at h; cases h
  have queue : (s.setSeqState .running).pool.writeQ = [] := hq
  simp only [State.beginUnit, check, setSeqState_entry, op, State.beginWrite, queue]

/-- The idle report begins the linger of a tape that runs (R158). -/
theorem idleReport_lingers (hp : s.wch.phase ≠ .block) (hm : s.xp.motion = .running)
    (hl : s.xp.lingerTimer = none) (hz : s.xp.timing.linger ≠ 0) :
    s.idleReport = s.setXp { s.xp with lingerTimer := some s.xp.timing.linger } := by
  simp only [State.idleReport, if_neg hp, State.takeIdle, hm, State.beginLinger, hl,
    Option.isSome_none, Bool.false_eq_true, if_false, if_neg hz]

/-- A slot's unit without fault is followed by a wait for the write queue's head. -/
theorem writeReport_slot_waits (hs : s.seq.state = .running) (hu : u.target = .slot n)
    (ha : (s.slot n).state = .active) (hf : 0 < s.pool.freeCount) (hx : s.stream.state ≠ .starved)
    (h : s.unitFollows) (hc : s.entry.opcode = 0x01) (hw : s.MayWrite) (hm : s.xp.motion = .running)
    (hq : s.pool.writeQ = []) (hp : s.wch.phase ≠ .block) (hl : s.xp.lingerTimer = none)
    (hz : s.xp.timing.linger ≠ 0) :
    ∃ t, carryOut (s.writeReport u .clean) = t ∧ t.seq = s.seq.unitDone .waitHead ∧
      t.pool = s.pool.put n SlotRecord.free ∧ t.wch = s.wch ∧ t.xp.motion = .running ∧
      t.xp.lingerTimer = some s.xp.timing.linger ∧ t.host = s.host ∧ t.pos = s.pos ∧
      t.stream = s.stream ∧ t.capture = s.capture ∧ t.pending = s.pending := by
  have waits := beginUnit_waits (s := s.counted (s.pool.put n .free))
    (by rw [counted_entry]; exact hc) (counted_mayWrite hw _) (by simpa using hq)
  have lingers := idleReport_lingers
    (s := ((s.counted (s.pool.put n .free)).setSeqState .running).setWork .waitHead)
    (by simpa [State.setSeqState] using hp) (by simpa using hm) (by simpa using hl)
    (by simpa using hz)
  refine ⟨_, rfl, ?_⟩
  rw [writeReport_slot (by rw [hs]; rfl) hu ha hf hx, counted_next h, waits, lingers]
  refine ⟨?_, ?_⟩
  · show (State.setXp _ _).seq = _
    rw [setXp_seq, setWork_seq, State.setSeqState, setSeq_seq, counted_seq]
    simp only [Sequencer.unitDone, EntryRecord.done, ← hs]
  · simp [carryOut, State.setSeqState, hm]

/-- The record of an entry whose episode ended RECOVERED without a MARGINAL attempt (R87). -/
theorem recovered_record {r : EntryRecord} {c : Byte} (h : c.toNat = r.unitsDone + 1) :
    r.recovered false =
      { r with unitsDone := r.unitsDone + 1, recoveredSeen := true } := by
  rw [EntryRecord.recovered, EntryRecord.marginalIf, Bool.or_false, done_unitsDone h]

/-- The state in which the episode has ended RECOVERED, its unit counted. -/
def recoveredUnit (p : Pool) (s : State) : State :=
  ((((s.setLast .clean).setPool p).record (.recovered false)).closeEpisode).setWork .none

theorem recoveredUnit_seq (p : Pool) (s : State) : (s.recoveredUnit p).seq =
    { s.seq with work := .none, episode := none, record := s.seq.record.recovered false } := by
  rw [recoveredUnit, setWork_seq, State.closeEpisode, setWork_seq]
  rfl

theorem recoveredUnit_xp (p : Pool) (s : State) :
    (s.recoveredUnit p).xp = { s.xp with blankTimer := none } := by
  rw [recoveredUnit, setWork_none, State.closeEpisode, setWork_none]
  rfl

/-- What the episode's end leaves as it was. -/
theorem recoveredUnit_keeps (p : Pool) (s : State) : (s.recoveredUnit p).pool = p ∧
    (s.recoveredUnit p).host = s.host ∧ (s.recoveredUnit p).wch = s.wch ∧
    (s.recoveredUnit p).pos = s.pos ∧ (s.recoveredUnit p).stream = s.stream ∧
    (s.recoveredUnit p).capture = s.capture ∧ (s.recoveredUnit p).pending = s.pending := by
  simp [recoveredUnit, State.closeEpisode, State.setLast, State.setEpisode, State.record]

/-- A re-attempt without fault ends the episode, and the entry with it where its unit was the last. -/
theorem writeReport_recovered {e : Episode} (hs : s.seq.state = .recovery)
    (he : s.seq.episode = some e) (hn : e.slot = some n) (ha : (s.slot n).state = .active)
    (hf : 0 < s.pool.freeCount) (hx : s.stream.state ≠ .starved)
    (hc : s.entry.count.toNat = s.seq.record.unitsDone + 1) :
    carryOut (s.writeReport u .clean) = (s.recoveredUnit (s.pool.put n .free)).endEntry .done := by
  have last : (s.setLast .clean).seq.episode = some { e with last := .clean } := by
    show s.seq.episode.map _ = _
    rw [he]
    rfl
  have frees := freeActive_quiet (s := s.setLast .clean) ha hf hx
  have ends : s.writeReport u .clean = ((((s.setLast .clean).setPool (s.pool.put n .free)).record
      (.recovered false)).closeEpisode).unitOver := by
    have fine : (s.setLast .clean).entry.fails .clean = false := rfl
    have plain : (WriteClass.clean == .marginal) = false := rfl
    simp only [State.writeReport, hs, SeqState.unitRuns, Bool.false_eq_true, if_false, if_true,
      WriteClass.attempt, last, fine, State.recoverWrite, hn, frees, plain]
    rfl
  have entry : ((((s.setLast .clean).setPool (s.pool.put n .free)).record
      (.recovered false)).closeEpisode).entry = s.entry := by
    rw [State.closeEpisode, setWork_entry]
    exact entry_congr rfl rfl
  have nonzero : s.entry.count ≠ 0 := by
    intro zero
    rw [zero] at hc
    simp at hc
  have count : ((((s.setLast .clean).setPool (s.pool.put n .free)).record
      (.recovered false)).closeEpisode).seq.record.unitsDone = s.seq.record.unitsDone + 1 := by
    rw [State.closeEpisode, setWork_seq]
    exact congrArg EntryRecord.unitsDone (recovered_record hc)
  rw [ends, unitOver_done (by rw [entry]; exact nonzero) (by rw [entry, count, hc])]
  rfl

/-- The next unit in its place, where the read-back of the unit before is over. -/
theorem Placed.begun {t' : State} {k : Work} (h : Placed t w t')
    (b : NextBegun (s.readBackOver u) k p t) :
    t'.seq = s.seq.unitDone k ∧ t'.pool = p ∧ t'.xp.motion = .running ∧ t'.xp.dir = .forward ∧
      t'.host = s.host ∧ t'.pos = s.pos ∧ t'.stream = s.stream ∧ t'.capture = s.capture ∧
      t'.pending = s.pending := by
  rw [h.rest]
  exact ⟨b.seq.trans (by rw [readBackOver_seq]), b.pool, b.motion, b.dir, b.host.trans (by simp),
    b.pos.trans (by simp), b.stream.trans (by simp), b.capture.trans (by simp),
    b.pending.trans (by simp)⟩

/-- The list ends with the read-back: the channel is IDLE, and the tape stops by its ramp. -/
theorem endEntry_settles {o : EntryOutcome} {c : EndCause} (hr : s.host.results.length < 16)
    (h : EndsList s o c) (hm : s.xp.motion = .running) (hp : s.wch.phase = .after)
    (hv : s.wch.verify = none) : (s.endEntry o).settleChannel = (s.endEntry o).channelIdle ∧
      (s.endEntry o).xp.motion = .stopping := by
  obtain ⟨motion, -, -, wch⟩ := endEntry_stopped hr h hm (by rw [hp]; nofun)
  exact ⟨settleChannel_after (by rw [wch]; exact hp) (by rw [wch]; exact hv), motion⟩

/-- From `s`, the last unit of the list is counted in `c`, with the entry record `g` and the pool `p`, its
read-back over. -/
structure LastCounted (s : State) (g : EntryRecord) (p : Pool) (c : State) : Prop where
  seq : ∃ e, c.seq = { s.seq with work := .none, episode := e, record := g }
  xp : c.xp = { s.xp with blankTimer := none }
  wch : c.wch = { s.wch with verify := none, watchTimer := none, deadline := none }
  pool : c.pool = p
  host : c.host = s.host
  pos : c.pos = s.pos
  stream : c.stream = s.stream
  capture : c.capture = s.capture
  pending : c.pending = s.pending

theorem LastCounted.ends {c : State} {g : EntryRecord} (h : LastCounted s g p c) (hl : s.lastEntry)
    (hr : s.host.results.length < 16) (hm : s.xp.motion = .running) (hp : s.wch.phase = .after) :
    ∃ t, (c.endEntry .done).settleChannel = t ∧
      s.listEndedWith t (c.buildResult .done) .done .completed ∧ t.pool = p ∧ t.wch = .reset ∧
      t.xp.motion = .stopping ∧ t.capture = s.capture ∧ t.pos = s.pos ∧ t.stream = s.stream := by
  obtain ⟨e, seq⟩ := h.seq
  have room : c.host.results.length < 16 := by rw [h.host]; exact hr
  have final : EndsList c .done .completed :=
    .lastDone (by simpa only [State.lastEntry, seq] using hl)
  have ended := (GivenBack.nothing (s := c)).ended room final
  have list := listEndedWith_congr (s := s) ended.list (by rw [h.host]) (by rw [seq]) h.pending
  obtain ⟨settled, motion⟩ := endEntry_settles room final (by rw [h.xp]; exact hm)
    (by rw [h.wch]; exact hp) (by rw [h.wch])
  rw [settled]
  generalize c.endEntry .done = t at ended list motion
  exact ⟨t.channelIdle, rfl, list, ended.pool.trans h.pool, rfl, motion, ended.capture.trans h.capture,
    ended.pos.trans h.pos, ended.stream.trans h.stream⟩

theorem lastCounted_counted (h : s.entry.count.toNat = s.seq.record.unitsDone + 1) (p : Pool) :
    LastCounted s { s.seq.record with unitsDone := s.seq.record.unitsDone + 1 } p
      ((s.readBackOver u).counted p) where
  seq := ⟨s.seq.episode, by rw [counted_seq, readBackOver_seq, done_unitsDone h]⟩
  xp := by simp
  wch := by simp
  pool := by simp
  host := by simp
  pos := by simp
  stream := by simp
  capture := by simp
  pending := by simp

theorem lastCounted_recovered (h : s.entry.count.toNat = s.seq.record.unitsDone + 1) (p : Pool) :
    LastCounted s
      { s.seq.record with unitsDone := s.seq.record.unitsDone + 1, recoveredSeen := true } p
      ((s.readBackOver u).recoveredUnit p) := by
  obtain ⟨pool, host, wch, pos, stream, capture, pending⟩ :=
    recoveredUnit_keeps p (s.readBackOver u)
  exact
    { seq := ⟨none, by rw [recoveredUnit_seq, readBackOver_seq, recovered_record h]⟩
      xp := by rw [recoveredUnit_xp, readBackOver_xp]
      wch := by rw [wch, readBackOver_wch]
      pool := pool
      host := by rw [host, readBackOver_host]
      pos := by rw [pos, readBackOver_pos]
      stream := by rw [stream, readBackOver_stream]
      capture := by rw [capture, readBackOver_capture]
      pending := by rw [pending, readBackOver_pending] }

/-- What a slot's unit needs of the state in which its read-back is over. -/
theorem readBackOver_ready (hu : u.target = .slot n) (ha : (s.slot n).state = .active)
    (hf : 0 < s.pool.freeCount) (hx : s.stream.state ≠ .starved) :
    ((s.readBackOver u).slot n).state = .active ∧ 0 < (s.readBackOver u).pool.freeCount ∧
      (s.readBackOver u).stream.state ≠ .starved :=
  ⟨readBackOver_active hu ha, by rw [readBackOver_freeCount hu ha]; exact hf,
    by rw [readBackOver_stream]; exact hx⟩

end State

open State in
/-- Settles O40: the watch ended CLEAN, and what its unit leaves to the list, the channel and the next
unit. -/
theorem cleanReadBackEndsTheUnit : Obligations.CleanReadBackEndsTheUnit := by
  refine ⟨?last, ?next, ?recovered⟩
  case last =>
    intro x s u v n phase unit verify target watch weak bad taken run silent compared silence hm hs hw
      ha hf hx hc hl hr
    have due : s.cleanRowDue u := ⟨v, phase, unit, verify, watch, weak, bad, taken, run, silent,
      compared, silence⟩
    obtain ⟨active, free, port⟩ := readBackOver_ready target ha hf hx
    have count : (s.readBackOver u).entry.count.toNat =
        (s.readBackOver u).seq.record.unitsDone + 1 := by
      rw [readBackOver_entry, readBackOver_seq]
      exact hc
    have counted := lastCounted_counted (u := u) hc (s.pool.put n .free)
    obtain ⟨t, settled, list, pool, wch, motion, capture, pos, stream⟩ := counted.ends hl hr hm phase
    obtain ⟨e, seq⟩ := counted.seq
    rw [exec_cleanRow x due hm, writeReport_slot_last (by rw [readBackOver_seq, hs]; rfl) target active
      free port count, readBackOver_free target, settled]
    obtain ⟨results, outcome, -, -, idle, -, cause, -, pending⟩ := list
    exact ⟨t, _, rfl, pool, results, outcome, congrArg Sequencer.record seq, idle, cause, wch, motion,
      capture, pos, stream, pending⟩
  case next =>
    intro x s u due hs follows hm hd run permit eom zone
    have mayWrite : (s.readBackOver u).MayWrite :=
      ⟨by simpa using permit, by simpa using zone, by simpa using eom⟩
    have unitFollows : (s.readBackOver u).unitFollows := by
      simpa only [State.unitFollows, readBackOver_entry, readBackOver_seq] using follows
    have running : (s.readBackOver u).seq.state = .running := by rw [readBackOver_seq, hs]
    have motion : (s.readBackOver u).xp.motion = .running := by rw [readBackOver_xp, hm]
    have dir : (s.readBackOver u).xp.dir = .forward := by rw [readBackOver_xp, hd]
    have phase : s.wch.phase = .after := by
      obtain ⟨v, phase, -⟩ := due
      exact phase
    rw [exec_cleanRow x due hm]
    refine ⟨fun n m q target hw ha hf hx hc hq hmn => ?slot, fun g target hw hc hg => ?mark,
      fun n target hw ha hf hx hc hq hl hz => ?waits⟩
    case slot =>
      obtain ⟨active, free, port⟩ := readBackOver_ready target ha hf hx
      obtain ⟨t, w, report, begun, wtarget, tag, reattempt, verify⟩ := writeReport_slot_next running
        target active free port unitFollows (by rw [readBackOver_entry]; exact hc) mayWrite motion dir
        (by rw [readBackOver_writeQ]; exact hq) hmn
      rw [readBackOver_free target, readBackOver_other target hmn] at begun
      rw [readBackOver_other target hmn] at tag
      rw [readBackOver_entry] at verify
      have gates : t.mayGate = true := by
        simp [State.mayGate, Transport.runningForward, begun.motion, begun.dir, begun.levels, permit]
      have placed := placed_slot (s := t) (w := w) (by rw [begun.wch]; exact phase)
        (by rw [begun.wch]; exact run) gates wtarget reattempt
      obtain ⟨seq, pool, motion, dir, host, pos, stream, capture, pending⟩ := placed.begun begun
      rw [report]
      exact ⟨_, w, rfl, seq, pool, placed.unit, wtarget, tag, reattempt, verify,
        placed.egate.trans (by rw [begun.wch]; rfl), placed.run,
        fun g hg => placed.gap g (by rw [begun.wch]; exact hg),
        fun hg => placed.block (by rw [begun.wch]; exact hg),
        motion, dir, host, pos, stream, capture, pending⟩
    case mark =>
      obtain ⟨t, w, report, begun, wtarget, kind, tag, reattempt⟩ := writeReport_mark_next running
        target unitFollows (by rw [readBackOver_entry]; exact hc) mayWrite motion dir
      rw [readBackOver_mark target] at begun
      have timer : t.wch.gapTimer = .running g := by rw [begun.wch]; exact hg
      have placed := placed_gap (s := t) (w := w) (by rw [begun.wch]; exact phase)
        (by rw [begun.wch]; exact run) timer
      obtain ⟨seq, pool, motion, -, host, pos, stream, capture, pending⟩ := placed.begun begun
      obtain ⟨gap, wgate, gapTimer⟩ := placed.gap g timer
      rw [report]
      exact ⟨_, w, rfl, seq, gap, gapTimer, placed.egate.trans (by rw [begun.wch]; rfl), wgate,
        placed.unit, wtarget, kind, tag, reattempt, motion, pool, host, pos, stream, capture, pending⟩
    case waits =>
      obtain ⟨active, free, port⟩ := readBackOver_ready target ha hf hx
      obtain ⟨t, report, seq, pool, wch, run', linger, host, pos, stream, capture, pending⟩ :=
        writeReport_slot_waits running target active free port unitFollows
          (by rw [readBackOver_entry]; exact hc) mayWrite motion
          (by rw [readBackOver_writeQ]; exact hq) (by rw [readBackOver_wch, phase]; nofun)
          (by rw [readBackOver_xp]; exact hl) (by rw [readBackOver_xp]; exact hz)
      rw [report, settleChannel_after (by rw [wch]; exact phase) (by rw [wch]; rfl)]
      rw [readBackOver_seq] at seq
      rw [readBackOver_free target] at pool
      rw [readBackOver_xp] at linger
      refine ⟨t.channelIdle, rfl, seq, pool, rfl, run', linger, host.trans (by simp),
        pos.trans (by simp), stream.trans (by simp), capture.trans (by simp), pending.trans (by simp)⟩
  case recovered =>
    intro x s u v n e phase unit verify target watch weak bad taken run silent compared silence hm hs hw
      he hk hn ha hf hx hc hl hr
    have due : s.cleanRowDue u := ⟨v, phase, unit, verify, watch, weak, bad, taken, run, silent,
      compared, silence⟩
    obtain ⟨active, free, port⟩ := readBackOver_ready target ha hf hx
    have counted := lastCounted_recovered (u := u) hc (s.pool.put n .free)
    obtain ⟨t, settled, list, pool, wch, motion, capture, pos, stream⟩ := counted.ends hl hr hm phase
    obtain ⟨e', seq⟩ := counted.seq
    rw [exec_cleanRow x due hm, writeReport_recovered (by rw [readBackOver_seq]; exact hs)
      (by rw [readBackOver_seq]; exact he) hn active free port
      (by rw [readBackOver_entry, readBackOver_seq]; exact hc), readBackOver_free target, settled]
    exact ⟨t, _, rfl, pool, list, congrArg Sequencer.record seq, wch, motion, capture, pos, stream⟩

end Sys2Proof.Machine
end

section
/-! SUPPORT. The small registers of the host port, SEQCTL, and the windows of SEQSTAT, XPSTAT and the results
(R46, R58, R66, R150, R182 to R188). -/

namespace Sys2Proof.Machine

/-! ## Writes that a register takes whole (R183, R185, R187) -/

/-- A code that names no command is refused. -/
theorem State.command_unknown {code : Byte} (h : code ∉ commandCodes) (s : State) :
    s.command code = s.answer .unknownCode := by
  simp only [commandCodes, List.mem_cons, List.not_mem_nil, or_false, not_or] at h
  simp only [State.command, h, if_false]

/-- An offset without a register for writing takes no byte. -/
theorem State.writeRegister_none {off : BitVec 5} (h : off ∈ otherWriteOffsets) (ha : off ≠ 0x01)
    (b : Byte) (s : State) : s.writeRegister off b = s := by
  simp only [otherWriteOffsets, List.mem_cons, List.not_mem_nil, or_false] at h
  rcases h with rfl | rfl | rfl | rfl | rfl | rfl | rfl | rfl | rfl
  · exact absurd rfl ha
  all_goals rfl

/-- Settles O7: the writes by definition, and the offsets and codes that store nothing. -/
theorem smallRegisterWrites : Obligations.SmallRegisterWrites := by
  refine ⟨fun _ _ => rfl, fun _ _ => rfl, fun _ _ => rfl, fun _ _ => rfl, fun _ _ => rfl,
    fun off b s h ha => ?offset, rfl, fun code s h => ?code⟩
  case offset =>
    exact congrArg Host.Outcome.next
      (State.writeRegister_none (List.contains_iff_mem.mp h) ha b s.touch)
  case code =>
    have unnamed : code ∉ commandCodes := by simpa [Instr.wellFormed] using h
    exact congrArg Host.Outcome.next (State.command_unknown unnamed s.touch)

/-! ## SEQCTL (R46) -/

/-- A sticky flag set where a condition holds, as the host port's record shows it. -/
theorem State.stickIf_eq (c : Bool) (f : HostFlag) (s : State) :
    s.stickIf c f = s.setHost (s.host.stuck c f) := by
  cases c <;> rfl

/-- The two lengths are digits of the low byte. -/
theorem SeqCtl.ofBytes_eq (hi lo : Byte) : SeqCtl.ofBytes hi lo =
    { mainLength := max 1 (min 8 (lo.toNat % 16))
      recLength := min 4 (lo.toNat / 16 % 8)
      cycle := hi.getLsbD 0
      freezeOnFailure := hi.getLsbD 1 } := by
  simp [SeqCtl.ofBytes, BitVec.extractLsb'_toNat, Nat.shiftRight_eq_div_pow]

/-- A length is clamped where its digit is out of range. -/
theorem SeqCtl.clamps_eq (lo : Byte) : SeqCtl.clamps lo =
    decide (lo.toNat % 16 = 0 ∨ 8 < lo.toNat % 16 ∨ 4 < lo.toNat / 16 % 8) := by
  have main : (lo.extractLsb' 0 4).toNat = lo.toNat % 16 := by simp [BitVec.extractLsb'_toNat]
  have recovery : (lo.extractLsb' 4 3).toNat = lo.toNat / 16 % 8 := by
    simp [BitVec.extractLsb'_toNat, Nat.shiftRight_eq_div_pow]
  rw [Bool.eq_iff_iff]
  simp only [SeqCtl.clamps, ofBytes_eq, main, recovery, Bool.or_eq_true, bne_iff_ne, decide_eq_true_eq]
  omega

/-- Settles O16: the settings of the held low byte and the high byte, and LIST_LOCKED outside IDLE. -/
theorem listSettingsWrite : Obligations.ListSettingsWrite := by
  refine ⟨fun b s h => ?stored, fun b s h => congrArg Host.Outcome.next (if_neg (by exact h))⟩
  case stored =>
    have idle : s.touch.seq.state = .idle := h
    have hold : s.touch.host.holdSeqctl = s.host.holdSeqctl := rfl
    show Host.Outcome.next (s.touch.storeSeqctl b) = _
    rw [State.storeSeqctl, if_pos idle, State.stickIf_eq, hold, SeqCtl.ofBytes_eq, SeqCtl.clamps_eq]
    rfl

/-! ## SEQSTAT and XPSTAT (R58, R76, R149, R150, R184) -/

theorem Work.waiting_eq (w : Work) :
    w.waiting = if w = .waitHead then 1 else if w = .waitSlot then 2 else 0 := by
  cases w <;> rfl

/-- SEQSTAT between episodes. -/
theorem Sequencer.seqstat_plain {q : Sequencer} (h : q.episode = none) : q.seqstat =
    [BitVec.ofNat 8 (q.state.code + 8 * q.stopInd.toNat + 16 * q.work.waiting),
      BitVec.ofNat 8 (q.cur.val + 8 * 7), q.cycle, 0, 0] := by
  rw [Sequencer.seqstat, h]
  rfl

/-- SEQSTAT in an episode, its recovery entry `v` and its slot field `f`. -/
theorem Sequencer.seqstat_episode {q : Sequencer} {e : Episode} {v f : Nat} (h : q.episode = some e)
    (hv : e.cur = none ∧ v = 7 ∨ ∃ i, e.cur = some i ∧ v = i.val)
    (hf : e.slot = none ∧ f = 0 ∨ ∃ n, e.slot = some n ∧ f = n.val + 8) : q.seqstat =
    [BitVec.ofNat 8 (q.state.code + 8 * q.stopInd.toNat + 16 * q.work.waiting),
      BitVec.ofNat 8 (q.cur.val + 8 * v + 64 * e.kind.code), q.cycle,
      BitVec.ofNat 8 (f + 16 * e.budget), BitVec.ofNat 8 e.attempts] := by
  have entry : ((q.episode.bind (·.cur)).map (·.val)).getD 7 = v := by
    rw [h]
    rcases hv with ⟨hc, rfl⟩ | ⟨i, hc, rfl⟩ <;> simp [hc]
  have slot : (e.slot.map (fun n => n.val + 8)).getD 0 = f := by
    rcases hf with ⟨hs, rfl⟩ | ⟨n, hs, rfl⟩ <;> simp [hs]
  simp only [Sequencer.seqstat, entry]
  rw [h]
  simp only [slot]
  rfl

/-- The byte of eight truth values, the first in bit 0, as a sum. -/
theorem bits_eq_sum (b0 b1 b2 b3 b4 b5 b6 b7 : Bool) :
    bitAt 0 b0 ||| bitAt 1 b1 ||| bitAt 2 b2 ||| bitAt 3 b3 ||| bitAt 4 b4 ||| bitAt 5 b5 |||
        bitAt 6 b6 ||| bitAt 7 b7 =
      BitVec.ofNat 8 (b0.toNat + 2 * b1.toNat + 4 * b2.toNat + 8 * b3.toNat + 16 * b4.toNat +
        32 * b5.toNat + 64 * b6.toNat + 128 * b7.toNat) := by
  revert b0 b1 b2 b3 b4 b5 b6 b7
  decide

theorem lines_eq_sum (b0 b1 b2 b3 b4 b5 : Bool) :
    bitAt 0 b0 ||| bitAt 1 b1 ||| bitAt 2 b2 ||| bitAt 3 b3 ||| bitAt 4 b4 ||| bitAt 5 b5 =
      BitVec.ofNat 8 (b0.toNat + 2 * b1.toNat + 4 * b2.toNat + 8 * b3.toNat + 16 * b4.toNat +
        32 * b5.toNat) := by
  simpa [bitAt] using bits_eq_sum b0 b1 b2 b3 b4 b5 false false

theorem motionLine_toNat (x : Transport) :
    x.motionLine.toNat = if x.motion ∈ [.starting, .running, .rewinding] then 1 else 0 := by
  unfold Transport.motionLine
  cases x.motion <;> rfl

theorem reverseLine_toNat (x : Transport) : 2 * x.reverseLine.toNat =
    if (x.motion ∈ [.starting, .running, .stopping] ∧ x.dir = .reverse) ∨ x.motion = .rewinding
    then 2 else 0 := by
  unfold Transport.reverseLine
  cases x.motion <;> cases x.dir <;> rfl

theorem fastLine_toNat (x : Transport) : 4 * x.fastLine.toNat =
    if x.motion = .rewinding ∨ (x.motion = .stopping ∧ x.fast = true) then 4 else 0 := by
  unfold Transport.fastLine
  cases x.motion <;> cases x.fast <;> rfl

theorem unloadLine_toNat (x : Transport) :
    8 * x.unloadLine.toNat = if x.motion = .unloading then 8 else 0 := by
  unfold Transport.unloadLine
  cases x.motion <;> rfl

theorem State.xpstat_eq (s : State) : s.xpstat =
    [ BitVec.ofNat 8 (s.xp.motion.code + 16 * (if s.xp.dir = .reverse then 1 else 0) +
        32 * heldCode s.xp.held),
      BitVec.ofNat 8 (s.xp.levels.present.toNat + 2 * s.xp.levels.ready.toNat +
        4 * s.xp.levels.wpermit.toNat + 8 * s.xp.levels.bom.toNat + 16 * s.xp.levels.ew.toNat +
        32 * s.xp.levels.eom.toNat + 64 * s.xp.unloadInd.toNat +
        128 * s.xp.lingerTimer.isSome.toNat),
      BitVec.ofNat 8 (s.xp.motionLine.toNat + 2 * s.xp.reverseLine.toNat + 4 * s.xp.fastLine.toNat +
        8 * s.xp.unloadLine.toNat + 16 * s.wch.wgate.toNat + 32 * s.wch.egate.toNat) ] := by
  have dir : (s.xp.dir == .reverse).toNat = if s.xp.dir = .reverse then 1 else 0 := by
    cases s.xp.dir <;> rfl
  rw [State.xpstat, dir, bits_eq_sum, lines_eq_sum]
  rfl

/-- Settles O9: the layouts, and the reads with index 0 and with another. -/
theorem statusSequencesReadOneMoment : Obligations.StatusSequencesReadOneMoment := by
  refine ⟨⟨rfl, rfl, rfl, rfl⟩, fun q w hw h => ?plain, fun q e w v f hw h hv hf => ?episode,
    fun s => ?xpstat, fun s h => ?seqFirst, fun s h => ?seqNext, fun s h => ?xpFirst,
    fun s h => ?xpNext⟩
  case plain => rw [Sequencer.seqstat_plain h, Work.waiting_eq, ← hw]
  case episode => rw [Sequencer.seqstat_episode h hv hf, Work.waiting_eq, ← hw]
  case xpstat =>
    rw [State.xpstat_eq, motionLine_toNat, reverseLine_toNat, fastLine_toNat, unloadLine_toNat]
  case seqFirst =>
    have first : (s.setHost { s.host with xpIx := 0 }).host.seqIx = 0 := h
    show Host.Outcome.next s.readSeqstat = _
    simp only [State.readSeqstat, first, if_true]
    simp only [State.setHost, h]
    rfl
  case seqNext =>
    have next : (s.setHost { s.host with xpIx := 0 }).host.seqIx ≠ 0 := h
    have wraps : (if s.host.seqIx = 4 then 0 else s.host.seqIx + 1) = s.host.seqIx + 1 := by
      split
      · next h4 => rw [h4]; rfl
      · rfl
    show Host.Outcome.next s.readSeqstat = _
    simp only [State.readSeqstat, next, if_false, wraps]
    rfl
  case xpFirst =>
    have first : (s.setHost { s.host with seqIx := 0 }).host.xpIx = 0 := h
    show Host.Outcome.next s.readXpstat = _
    simp only [State.readXpstat, first, if_true]
    simp only [State.setHost, h]
    rfl
  case xpNext =>
    have next : (s.setHost { s.host with seqIx := 0 }).host.xpIx ≠ 0 := h
    have wraps : (if s.host.xpIx = 2 then 0 else s.host.xpIx + 1) = s.host.xpIx + 1 := by
      split
      · next h2 => rw [h2]; rfl
      · rfl
    show Host.Outcome.next s.readXpstat = _
    simp only [State.readXpstat, next, if_false, wraps]
    rfl

/-! ## The result window (R66, R183, R188) -/

theorem Result.bytes_eq (r : Result) : (List.range 12).map r.byte =
    [ BitVec.ofNat 8 (r.index.val + 8 * r.file.isSome.toNat + 16 * r.block.isSome.toNat +
        32 * r.record.marginalSeen.toNat + 64 * r.record.ewPassed.toNat +
        128 * r.record.recoveredSeen.toNat),
      r.op, r.outcome.code, BitVec.ofNat 8 r.record.unitsDone, BitVec.ofNat 8 r.record.skipped,
      BitVec.ofNat 8 r.record.retries, BitVec.ofNat 8 r.record.dropped, r.cycle,
      BitVec.ofNat 8 (r.file.getD 65535), BitVec.ofNat 8 (r.file.getD 65535 / 256),
      BitVec.ofNat 8 (r.block.getD 65535), BitVec.ofNat 8 (r.block.getD 65535 / 256) ] := rfl

/-- A read of the head result's byte: the field's latch is loaded at its low byte, RESPTR advances, and the
byte is driven. -/
theorem State.exec_resdataRead {s : State} {r : Result} {q : List Result} (h : s.host.results = r :: q) :
    exec .resdataRead s = .next (((s.touch.latchResult r s.host.resptr.val).setHost
      { (s.touch.latchResult r s.host.resptr.val).host with
        resptr := (s.touch.latchResult r s.host.resptr.val).host.resptr + 1 }).drive
      (s.touch.resultByte r s.host.resptr.val)) := by
  show Host.Outcome.next s.touch.readResdata = _
  simp only [State.readResdata, State.touch_host_results, h, State.touch_host_resptr]

@[simp] theorem HostPort.stuck_resptr (h : HostPort) (c : Bool) (f : HostFlag) :
    (h.stuck c f).resptr = h.resptr := by
  cases c <;> rfl

theorem State.exec_resptrWrite (b : Byte) (s : State) (p : Fin 12) (hp : p.val = min b.toNat 11) :
    exec (.resptrWrite b) s = .next { s with
      host := ({ s.host.accessed with resptr := p } : HostPort).stuck
        (decide (11 < b.toNat)) .clamped } := by
  have clamped : (⟨min b.toNat 11, by omega⟩ : Fin 12) = p := Fin.ext hp.symm
  show Host.Outcome.next (s.touch.storeResptr b) = _
  rw [State.storeResptr, State.stickIf_eq, clamped]
  rfl

/-- A byte that belongs to no two-byte field of a result loads no latch and needs none. -/
theorem State.resultByte_plain {k : Fin 12} (h : k ∉ ([8, 9, 10, 11] : List (Fin 12))) (r : Result)
    (s : State) : s.latchResult r k.val = s ∧ s.resultByte r k.val = r.byte k.val := by
  have apart : ∀ i : Fin 12, i ∈ ([8, 9, 10, 11] : List (Fin 12)) → k.val ≠ i.val :=
    fun i hi e => h (Fin.ext e ▸ hi)
  have h8 : k.val ≠ 8 := apart 8 (by decide)
  have h9 : k.val ≠ 9 := apart 9 (by decide)
  have h10 : k.val ≠ 10 := apart 10 (by decide)
  have h11 : k.val ≠ 11 := apart 11 (by decide)
  unfold State.latchResult State.resultByte
  constructor
  · split
    · exact absurd ‹_› h8
    · exact absurd ‹_› h10
    · rfl
  · split
    · exact absurd ‹_› h9
    · exact absurd ‹_› h11
    · rfl

/-- Settles O11: the layout, and the reads of the window by the place of RESPTR. -/
theorem resultWindow : Obligations.ResultWindow := by
  refine ⟨rfl, Result.bytes_eq, fun b s => ?stored, fun s h => ?empty, fun s r q h hp => ?plain,
    fun s r q h hp => ?fileLow, fun s r q h hp => ?fileHigh, fun s r q h hp => ?blockLow,
    fun s r q h hp => ?blockHigh⟩
  case stored =>
    refine ⟨_, State.exec_resptrWrite b s ⟨min b.toNat 11, by omega⟩ rfl, ?_, ?_⟩ <;>
      simp only [HostPort.stuck_resptr]
  case empty =>
    show Host.Outcome.next s.touch.readResdata = _
    simp only [State.readResdata, State.touch_host_results, h]
    rfl
  case plain =>
    obtain ⟨latch, byte⟩ := State.resultByte_plain hp r s.touch
    rw [State.exec_resdataRead h, latch, byte]
    rfl
  all_goals
    rw [State.exec_resdataRead h, hp]
    exact congrArg Host.Outcome.next (by
      simp only [State.drive, State.setHost, State.latchResult, State.resultByte, State.touch, hp]
      rfl)

end Sys2Proof.Machine
end

section
/-! SUPPORT. The registers read at offsets without a row of their own, list memory, and the list that START
refuses (R45, R47, R56, R182 to R189). -/

namespace Sys2Proof.Machine

/-! ## Registers read as they stand (R182, R186, R191, R192) -/

theorem eventByte_low (v : BitVec 9) : eventByte false v = v.setWidth 8 := by
  revert v
  decide

theorem eventByte_high (v : BitVec 9) : eventByte true v = if v.getLsbD 8 then 1 else 0 := by
  revert v
  decide

theorem SeqCtl.high_eq (c : SeqCtl) : c.high =
    BitVec.ofNat 8 ((if c.cycle then 1 else 0) + if c.freezeOnFailure then 2 else 0) := by
  unfold SeqCtl.high
  cases c.cycle <;> cases c.freezeOnFailure <;> rfl

theorem StreamPort.strctl_eq (p : StreamPort) : p.strctl = BitVec.ofNat 8 (p.master.toNat +
    2 * p.reserve + 8 * (if p.state = .filling then 1 else 0) + 16 * p.state.code +
    64 * p.discontinuity.toNat + 128 * p.lossNoted.toNat) := by
  unfold StreamPort.strctl StreamPort.srdy
  cases p.state <;> rfl

/-- The bytes at the offsets whose reads have no row of their own. -/
def State.registerBytes (s : State) : List (BitVec 5 × Byte) :=
  [ (0x00, BitVec.ofNat 8 (16 * s.host.cmdstat.code + s.host.cmdIndex.toNat)),
    (0x01, s.host.cmdarg),
    (0x02, BitVec.ofNat 8 (s.seq.ctl.mainLength + 16 * s.seq.ctl.recLength)),
    (0x03, BitVec.ofNat 8 ((if s.seq.ctl.cycle then 1 else 0) +
      if s.seq.ctl.freezeOnFailure then 2 else 0)),
    (0x05, s.seq.endCause.code),
    (0x06, BitVec.ofNat 8 s.seq.listptr.val),
    (0x08, BitVec.ofNat 8 s.xp.timptr.val),
    (0x0C, s.host.fillLatch.shown (BitVec.ofNat 8 (s.pool.fillCount / 256))),
    (0x0E, s.host.drainLatch.shown (BitVec.ofNat 8 (s.pool.drainCount / 256))),
    (0x0F, BitVec.ofNat 8 s.host.results.length),
    (0x14, s.posByte 1), (0x15, s.posByte 2), (0x16, s.posByte 3), (0x17, s.posByte 4),
    (0x18, s.host.events.setWidth 8),
    (0x19, if s.host.events.getLsbD 8 then 1 else 0),
    (0x1A, s.host.evmask.setWidth 8),
    (0x1B, if s.host.evmask.getLsbD 8 then 1 else 0),
    (0x1C, s.host.hoststat.setWidth 8),
    (0x1E, s.stream.strctl),
    (0x1F, s.pool.tag) ]

theorem State.registerBytes_offsets (s : State) :
    s.registerBytes.map Prod.fst = otherReadOffsets := rfl

/-- A register's byte is driven, and nothing else changes. -/
theorem State.exec_otherRegisterRead {s : State} {off : BitVec 5} {b : Byte}
    (h : (off, b) ∈ s.registerBytes) :
    exec (.otherRegisterRead off) s = .next { s with host := s.host.drove b } := by
  rw [State.registerBytes, ← SeqCtl.high_eq, ← eventByte_low, ← eventByte_low, ← eventByte_high,
    ← eventByte_high] at h
  simp only [List.mem_cons, Prod.mk.injEq, List.not_mem_nil, or_false] at h
  rcases h with ⟨rfl, rfl⟩ | ⟨rfl, rfl⟩ | ⟨rfl, rfl⟩ | ⟨rfl, rfl⟩ | ⟨rfl, rfl⟩ | ⟨rfl, rfl⟩ |
    ⟨rfl, rfl⟩ | ⟨rfl, rfl⟩ | ⟨rfl, rfl⟩ | ⟨rfl, rfl⟩ | ⟨rfl, rfl⟩ | ⟨rfl, rfl⟩ | ⟨rfl, rfl⟩ |
    ⟨rfl, rfl⟩ | ⟨rfl, rfl⟩ | ⟨rfl, rfl⟩ | ⟨rfl, rfl⟩ | ⟨rfl, rfl⟩ | ⟨rfl, rfl⟩ | ⟨rfl, rfl⟩ |
    ⟨rfl, rfl⟩ <;> rfl

/-- Settles O13: the codes, STRCTL's layout, and the byte that stands at each offset. -/
theorem otherRegisterReads : Obligations.OtherRegisterReads := by
  refine ⟨rfl, rfl, rfl, StreamPort.strctl_eq, fun off s h => ?_⟩
  have listed : off ∈ s.registerBytes.map Prod.fst := by
    rw [State.registerBytes_offsets]
    exact List.contains_iff_mem.mp h
  obtain ⟨⟨_, b⟩, hb, rfl⟩ := List.mem_map.mp listed
  exact ⟨b, hb, State.exec_otherRegisterRead hb⟩

/-! ## The operations of a list (R47, R56) -/

/-- A code names the operation of a list that has it, or none. -/
theorem opOf_cases (ops : List Op) (code : Byte) :
    (opOf ops code = none ∧ code ∉ ops.map Op.code) ∨
      ∃ o ∈ ops, opOf ops code = some o ∧ o.code = code := by
  cases h : opOf ops code with
  | none => exact .inl ⟨rfl, by simpa [opOf] using h⟩
  | some o =>
    have found := List.find?_some h
    exact .inr ⟨o, List.mem_of_find?_eq_some h, rfl, by simpa using found⟩

/-- A bad main entry (R56). -/
theorem ListEntry.badMain_iff (e : ListEntry) : e.badMain = true ↔
    (e.opcode ∉ ([0x01, 0x02, 0x03, 0x04, 0x05, 0x06, 0x07, 0x08, 0x09, 0x0A] : List Byte) ∨
      (e.opcode ∈ ([0x02, 0x06, 0x07, 0x08] : List Byte) ∧ e.count = 0) ∨ 7 < e.budget.toNat) := by
  rcases opOf_cases mainOps e.opcode with ⟨h, hn⟩ | ⟨o, ho, h, hc⟩
  · exact iff_of_true (by rw [ListEntry.badMain, ListEntry.mainOp, h]; rfl) (.inl hn)
  · rw [ListEntry.badMain, ListEntry.mainOp, h, ← hc]
    cases o <;> simp [mainOps, Op.code] at ho ⊢

/-- A bad recovery entry (R56). -/
theorem ListEntry.badRecovery_iff (e : ListEntry) : e.badRecovery = true ↔
    (e.opcode ∉ ([0x04, 0x05, 0x08, 0x11, 0x12, 0x13] : List Byte) ∨
      (e.opcode ∈ ([0x04, 0x05, 0x08] : List Byte) ∧ e.count = 0)) := by
  rcases opOf_cases recoveryOps e.opcode with ⟨h, hn⟩ | ⟨o, ho, h, hc⟩
  · rw [ListEntry.badRecovery, ListEntry.recoveryOp, h]
    exact iff_of_true rfl (.inl hn)
  · rw [ListEntry.badRecovery, ListEntry.recoveryOp, h, ← hc]
    cases o <;> simp [recoveryOps, Op.code] at ho ⊢

/-! ## START refused (R56) -/

section

variable {q : Sequencer} {s : State} {i : Nat}

theorem Sequencer.firstBad_main (hi : i < q.ctl.mainLength) (hb : (q.main i).badMain = true)
    (h : ∀ j, j < i → (q.main j).badMain = false) : q.firstBad = some i := by
  have found : (List.range q.ctl.mainLength).find? (fun n => (q.main n).badMain) = some i :=
    List.find?_range_eq_some.mpr ⟨hb, List.mem_range.mpr hi, fun j hj => by simp [h j hj]⟩
  rw [Sequencer.firstBad, found]
  rfl

theorem Sequencer.firstBad_recovery (hi : i < q.ctl.recLength)
    (hb : (q.recovery i).badRecovery = true)
    (hm : ∀ j, j < q.ctl.mainLength → (q.main j).badMain = false)
    (h : ∀ j, j < i → (q.recovery j).badRecovery = false) : q.firstBad = some (8 + i) := by
  have main : (List.range q.ctl.mainLength).find? (fun n => (q.main n).badMain) = none :=
    List.find?_range_eq_none.mpr fun j hj => by simp [hm j hj]
  have found : (List.range q.ctl.recLength).find? (fun n => (q.recovery n).badRecovery) = some i :=
    List.find?_range_eq_some.mpr ⟨hb, List.mem_range.mpr hi, fun j hj => by simp [h j hj]⟩
  rw [Sequencer.firstBad, main, found]
  rfl

/-- A bad list is refused with the index of its first bad entry. -/
theorem State.exec_start_bad (hs : s.seq.state = .idle) (h : s.seq.firstBad = some i) :
    exec .start s = .next { s with
      host := { s.host.answered .badList with cmdIndex := BitVec.ofNat 4 i } } := by
  show Host.Outcome.next s.touch.startList = _
  simp only [State.startList, State.touch_seq, hs, h, ne_eq, not_true_eq_false, if_false]
  rfl

end

/-- Settles O32: the refusals by the sequencer state and the first bad entry. -/
theorem startRefusals : Obligations.StartRefusals := by
  refine ⟨fun s h => congrArg Host.Outcome.next (if_pos (by exact h)), fun s i hs hi hb h => ?main,
    fun s i hs hi hb hm h => ?recovery, ListEntry.badMain_iff, ListEntry.badRecovery_iff⟩
  case main => exact State.exec_start_bad hs (Sequencer.firstBad_main hi hb h)
  case recovery => exact State.exec_start_bad hs (Sequencer.firstBad_recovery hi hb hm h)

/-! ## List memory (R45) -/

/-- LISTPTR advances from 47 to 0. -/
theorem listptr_next (p : Fin 48) :
    p + 1 = if h : p.val < 47 then ⟨p.val + 1, by omega⟩ else 0 := by
  revert p
  decide

theorem State.exec_listptrWrite (b : Byte) (s : State) (p : Fin 48) (hp : p.val = min b.toNat 47) :
    exec (.listptrWrite b) s = .next { s with
      seq := { s.seq with listptr := p }
      host := s.host.accessed.stuck (decide (47 < b.toNat)) .clamped } := by
  have clamped : (⟨min b.toNat 47, by omega⟩ : Fin 48) = p := Fin.ext hp.symm
  show Host.Outcome.next (s.touch.storeListptr b) = _
  rw [State.storeListptr, State.stickIf_eq, clamped]
  rfl

/-- A list that begins with a byte 00h is bad at its first entry. -/
theorem Sequencer.firstBad_zero {q : Sequencer} (hl : 0 < q.ctl.mainLength)
    (h : q.listMem.read 0 = 0) : q.firstBad = some 0 := by
  refine Sequencer.firstBad_main hl ((ListEntry.badMain_iff _).mpr (.inl ?_)) (by simp)
  show q.listMem.read 0 ∉ _
  rw [h]
  decide

/-- A soft reset keeps list memory and LISTPTR. -/
theorem State.softReset_seq (s : State) : s.softReset.seq = s.seq.softReset := by
  have moved : s.channelIdle.softMotion.seq = s.seq := by
    unfold State.softMotion
    split <;> simp [State.channelIdle]
  show Sequencer.softReset _ = _
  rw [← moved]
  rfl

/-- Settles O15: the accesses of the three registers, the places of the entries, and the resets. -/
theorem listMemoryAccess : Obligations.ListMemoryAccess := by
  refine ⟨fun b s => ⟨_, State.exec_listptrWrite b s ⟨min b.toNat 47, by omega⟩ rfl, rfl, rfl⟩,
    fun s => ?read, fun b s hs hw => ?stored, fun b s hs => ?locked,
    fun s => State.exec_otherRegisterRead (by simp [State.registerBytes]), fun q n => ⟨rfl, rfl⟩,
    fun lv s => ⟨_, rfl, fun k => rfl, rfl⟩, fun s => ⟨_, rfl, ?memory, ?pointer⟩,
    fun s hs hl h => ?zeros⟩
  case read =>
    rw [← listptr_next]
    rfl
  case stored =>
    have stored : s.touch.storeListdata b = State.advanceListptr
        (s.touch.setSeq { s.seq with listMem := s.seq.listMem.write s.seq.listptr.val b }) :=
      if_pos hs
    refine ⟨_, congrArg Host.Outcome.next stored, ?_, Memory.read_write_same b hw,
      fun k hk => Memory.read_write_other b hw hk⟩
    rw [← listptr_next]
    rfl
  case locked =>
    have locked : s.touch.storeListdata b = s.touch.advanceListptr.stick .listLocked :=
      if_neg (by exact hs)
    rw [← listptr_next]
    exact congrArg Host.Outcome.next locked
  case memory => rw [State.softReset_seq]; rfl
  case pointer => rw [State.softReset_seq]; rfl
  case zeros => exact State.exec_start_bad hs (Sequencer.firstBad_zero hl (h 0))

end Sys2Proof.Machine
end

section
/-! SUPPORT. The marker edges that set the zone, and the transport's timers (R55, R112, R137, R138, R153 to
R155, R158, R162). -/

namespace Sys2Proof.Machine

/-! ## Marker edges (R55, R112, R137, R138) -/

theorem Transport.movingForward_iff (x : Transport) : x.movingForward = true ↔
    x.dir = .forward ∧ x.motion ∈ [.starting, .running, .stopping] := by
  unfold Transport.movingForward Transport.ramping
  cases x.motion <;> cases x.dir <;> decide

theorem Transport.movingBack_iff (x : Transport) : x.movingBack = true ↔
    (x.dir = .reverse ∧ x.motion ∈ [.starting, .running, .stopping]) ∨
      x.motion ∈ [.rewinding, .unloading] := by
  unfold Transport.movingBack Transport.movingReverse Transport.ramping
  cases x.motion <;> cases x.dir <;> decide

/-- An entry that runs is in a unit, a wait or an episode (R62). -/
theorem SeqState.entryRuns_iff (x : SeqState) :
    x.entryRuns = true ↔ x ∈ [.running, .stopping, .recovery, .frozen] := by
  cases x <;> decide

/-- The entries that write are WRITE, MARK and ERASE. -/
theorem ListEntry.writes_iff (e : ListEntry) :
    e.writes = true ↔ e.opcode ∈ ([0x01, 0x02, 0x08] : List Byte) := by
  rcases opOf_cases mainOps e.opcode with ⟨h, hn⟩ | ⟨o, ho, h, hc⟩
  · rw [ListEntry.writes, ListEntry.mainOp, h]
    refine iff_of_false nofun fun k => hn ?_
    revert k
    generalize e.opcode = c
    revert c
    decide
  · rw [ListEntry.writes, ListEntry.mainOp, h, ← hc]
    cases o <;> decide

section

variable {s : State}

/-- A marker edge of the tape in motion sets the zone where it is known. -/
theorem State.onPos_edge_if (b : Bool) {z : Zone} (hz : z ≠ .unknown) (s : State) :
    (if b = true then s.onPos (.edge z) else s) =
      s.setPos (if s.pos.zone ≠ .unknown ∧ b = true then { s.pos with zone := z } else s.pos) := by
  cases b
  · simp [State.setPos]
  · by_cases h : s.pos.zone = .unknown <;> simp [State.onPos, Position.edge, h, hz]

theorem State.exec_bomFall (h : s.xp.levels.bom = true) : exec .bomFall s =
    .next ((s.onLevels fun l => { l with bom := false }).setPos
      (if s.pos.zone ≠ .unknown ∧ s.xp.movingForward = true then { s.pos with zone := .inData }
        else s.pos)) := by
  show execBomFall s = _
  simp only [execBomFall, h, if_true]
  exact congrArg Host.Outcome.next (State.onPos_edge_if _ (z := .inData) nofun _)

theorem State.exec_ewFall (h : s.xp.levels.ew = true) : exec .ewFall s =
    .next ((s.onLevels fun l => { l with ew := false }).setPos
      (if s.pos.zone ≠ .unknown ∧ s.xp.movingBack = true then { s.pos with zone := .inData }
        else s.pos)) := by
  show execEwFall s = _
  simp only [execEwFall, h, if_true]
  exact congrArg Host.Outcome.next (State.onPos_edge_if _ (z := .inData) nofun _)

theorem State.exec_eomFall (h : s.xp.levels.eom = true) : exec .eomFall s =
    .next ((s.onLevels fun l => { l with eom := false }).setPos
      (if s.pos.zone ≠ .unknown ∧ s.xp.movingBack = true then { s.pos with zone := .pastEw }
        else s.pos)) := by
  show execEomFall s = _
  simp only [execEomFall, h, if_true]
  exact congrArg Host.Outcome.next (State.onPos_edge_if _ (z := .pastEw) nofun _)

/-- EW rises in forward motion: the zone, and then the entry that writes. -/
theorem State.exec_ewRise (h : s.xp.levels.ew = false) (hf : s.xp.movingForward = true) :
    exec .ewRise s = .next (State.ewPassed ((s.onLevels fun l => { l with ew := true }).setPos
      (if s.pos.zone ≠ .unknown then { s.pos with zone := .pastEw } else s.pos))) := by
  have forward : (s.onLevels fun l => { l with ew := true }).xp.movingForward = true := hf
  have edge := State.onPos_edge_if true (z := .pastEw) nofun
    (s.onLevels fun l => { l with ew := true })
  simp only [if_true, and_true] at edge
  show execEwRise s = _
  simp only [execEwRise, h, forward, if_true, edge]
  rfl

theorem State.exec_ewRise_still (h : s.xp.levels.ew = false) (hf : s.xp.movingForward = false) :
    exec .ewRise s = .next (s.onLevels fun l => { l with ew := true }) := by
  have still : (s.onLevels fun l => { l with ew := true }).xp.movingForward = false := hf
  show execEwRise s = _
  simp only [execEwRise, h, still]
  rfl

end

/-- Settles O49: the zone set in the direction of motion, and EW's warning to the entry that writes. -/
theorem markerEdgesSetTheZone : Obligations.MarkerEdgesSetTheZone := by
  refine ⟨fun s h => ?bomFall, fun s h => ?ewFall, fun s h => ?eomFall,
    fun s h hd hm hs hc => ?warns, fun s h hd hm hn => ?quiet, fun s h hn => ?still⟩
  case bomFall =>
    rw [State.exec_bomFall h]
    simp only [Transport.movingForward_iff]
    rfl
  case ewFall =>
    rw [State.exec_ewFall h]
    simp only [Transport.movingBack_iff]
    rfl
  case eomFall =>
    rw [State.exec_eomFall h]
    simp only [Transport.movingBack_iff]
    rfl
  case warns =>
    have warns : (s.seq.state.entryRuns && s.entry.writes) = true := by
      rw [(SeqState.entryRuns_iff _).mpr hs, (ListEntry.writes_iff _).mpr hc]
      rfl
    rw [State.exec_ewRise h ((Transport.movingForward_iff _).mpr ⟨hd, hm⟩), State.ewPassed]
    exact congrArg Host.Outcome.next (if_pos warns)
  case quiet =>
    have quiet : ¬ (s.seq.state.entryRuns && s.entry.writes) = true := by
      rw [Bool.and_eq_true, SeqState.entryRuns_iff, ListEntry.writes_iff]
      rintro ⟨hs, hc⟩
      rcases hn with hn | hn
      · revert hs hn
        cases s.seq.state <;> decide
      · exact hn hc
    rw [State.exec_ewRise h ((Transport.movingForward_iff _).mpr ⟨hd, hm⟩), State.ewPassed]
    exact congrArg Host.Outcome.next (if_neg quiet)
  case still =>
    refine State.exec_ewRise_still h (Bool.eq_false_iff.mpr fun hf => ?_)
    obtain ⟨hd, hm⟩ := (Transport.movingForward_iff _).mp hf
    exact hn.elim (fun k => by rw [hd] at k; cases k) (fun k => k hm)

/-! ## The transport's timers (R153 to R155, R158, R162) -/

namespace State

variable {s : State} {p : Pool} {x : Byte}

theorem beginHeldWrite_none (h : s.wch.held = none) : s.beginHeldWrite = s := by
  simp only [State.beginHeldWrite, h]

theorem beginHeldErase_none (h : s.wch.held = none) : s.beginHeldErase = s := by
  simp only [State.beginHeldErase, h]

@[simp] theorem enterMotion_held (m : Motion) (d : Dir) (fast : Bool) (s : State) :
    (s.enterMotion m d fast).wch.held = s.wch.held := by
  unfold State.enterMotion
  split <;> rfl

/-- With no work held, RUNNING is reported to the blank timer alone. -/
theorem reportRunning_eq (h : s.wch.held = none) : s.reportRunning = s.startBlank := by
  have held : s.startBlank.wch.held = none := by rw [startBlank_wch]; exact h
  rw [State.reportRunning, beginHeldWrite_none held, beginHeldErase_none held]

theorem startBlank_xp (s : State) : ∃ b, s.startBlank.xp = { s.xp with blankTimer := b } := by
  unfold State.startBlank
  split <;> exact ⟨_, rfl⟩

/-- The start ramp ends in RUNNING, and a kept idle report is taken then. -/
theorem exec_startRamp (hm : s.xp.motion = .starting) (hx : s.xp.rampTimer = some x)
    (hh : s.wch.held = none) : exec .startRampExpiry s =
      .next (if s.xp.keptIdle then (s.enterMotion .running s.xp.dir false).startBlank.takeIdle
        else (s.enterMotion .running s.xp.dir false).startBlank) := by
  have report := reportRunning_eq (s := s.enterMotion .running s.xp.dir false)
    (by rw [enterMotion_held]; exact hh)
  show execStartRampExpiry s = _
  simp only [execStartRampExpiry, hm, hx, Option.isSome_some, and_self, if_true, report]

/-- The idle report begins the linger of a tape that runs without one. -/
theorem takeIdle_running (hm : s.xp.motion = .running) (hl : s.xp.lingerTimer = none)
    (hz : s.xp.timing.linger ≠ 0) :
    s.takeIdle = s.setXp { s.xp with lingerTimer := some s.xp.timing.linger } := by
  simp only [State.takeIdle, hm, State.beginLinger, hl, Option.isSome_none, Bool.false_eq_true,
    if_false, if_neg hz]

/-- The stop ramp ends in STOPPED, with no burst to cut. -/
theorem exec_stopRamp (hm : s.xp.motion = .stopping) (hx : s.xp.rampTimer = some x)
    (hr : s.rch.phase = .silent) (ha : s.seq.state ≠ .aborting) : exec .stopRampExpiry s =
      .next (s.enterMotion .stopped s.xp.dir false).afterRest := by
  have quiet : s.inBurst = false := by simp [State.inBurst, hr]
  have check := abortingCheck_of_state (s := s.enterMotion .stopped s.xp.dir false)
    (by rw [enterMotion_seq]; exact ha)
  show execStopRampExpiry s = _
  simp only [execStopRampExpiry, hm, hx, Option.isSome_some, and_self, if_true, State.cutBurst, quiet,
    Bool.false_eq_true, if_false, check]

/-- A tape that is brought to rest has both gates off. -/
theorem enterMotion_stopped (d : Dir) (s : State) : s.enterMotion .stopped d false = { s with
    wch := { s.wch with wgate := false, egate := false, run := false }
    xp := { s.xp with
      motion := .stopped, dir := d, fast := false, keptIdle := false, rampTimer := none
      lingerTimer := none, rewindTimer := none, blankTimer := none } } := rfl

/-- The state in which the rewind limit has released every line, the position lost. -/
def rewindFailed (s : State) : State := ((s.releaseAll .fault).forgetTags).onPos .lost

theorem exec_rewindLimit (hm : s.xp.motion = .rewinding ∨ s.xp.motion = .unloading)
    (hx : s.xp.rewindTimer = some x) : exec .rewindLimitExpiry s =
      .next (s.rewindFailed.terminalChange .transportFault).abortingCheck := by
  show execRewindLimitExpiry s = _
  simp only [execRewindLimitExpiry, hm, hx, Option.isSome_some, and_self, if_true]
  rfl

theorem rewindFailed_released (hr : s.rch.phase = .silent) :
    Released .fault s.xp.levels s s.rewindFailed :=
  (releaseAll_released (m := .fault) nofun hr).forgetTags.onPos _

theorem rewindFailed_host (hr : s.rch.phase = .silent) : s.rewindFailed.host = s.host :=
  releaseAll_host (s := s) .fault hr

theorem rewindFailed_pos (hr : s.rch.phase = .silent) :
    s.rewindFailed.pos = { s.pos with zone := .unknown, file := none, block := none } :=
  congrArg (fun l => ({ zone := .unknown, file := none, block := none, map := l } : Position))
    (releaseAll_map (s := s) .fault hr)

theorem rewindFailed_rewindTimer (hr : s.rch.phase = .silent) :
    s.rewindFailed.xp.rewindTimer = none := by
  show (s.releaseAll .fault).xp.rewindTimer = none
  rw [releaseAll_eq .fault hr, releaseLines_xp]

end State

open State in
/-- Settles O54: each timer's expiry, and what follows the tape's coming to rest. -/
theorem transportTimers : Obligations.TransportTimers := by
  refine ⟨?start, ?dropped, ?answered, ?linger, ?limit, ?limitEnds, ?none⟩
  case start =>
    intro s x hm hx hh hz
    obtain ⟨b, xp⟩ := startBlank_xp (s.enterMotion .running s.xp.dir false)
    rw [enterMotion_xp] at xp
    rw [exec_startRamp hm hx hh]
    split
    · next kept =>
      rw [takeIdle_running (by rw [xp]) (by rw [xp]) (by rw [xp]; exact hz)]
      refine ⟨_, rfl, ?_⟩
      simp [xp]
    · refine ⟨_, rfl, ?_⟩
      simp [xp]
  case dropped =>
    intro s x hm hx hr hs hu
    have rests : (s.enterMotion .stopped s.xp.dir false).afterRest =
        (s.enterMotion .stopped s.xp.dir false).hold none := by
      simp only [State.afterRest, enterMotion_stopped, hu, if_true, Bool.false_eq_true, if_false,
        if_pos hs]
    rw [exec_stopRamp hm hx hr (by rcases hs with h | h <;> rw [h] <;> nofun), rests]
    exact ⟨_, rfl, rfl, rfl, rfl, rfl, rfl, rfl, rfl, rfl, rfl, rfl, rfl, rfl⟩
  case answered =>
    intro s x hm hx hr hs hu
    have goesOn : ¬ (s.seq.state = .idle ∨ s.seq.state = .frozen) ∧ s.seq.state ≠ .aborting := by
      revert hs
      cases s.seq.state <;> decide
    have rests : (s.enterMotion .stopped s.xp.dir false).afterRest =
        (s.enterMotion .stopped s.xp.dir false).answerHeld := by
      simp only [State.afterRest, enterMotion_stopped, hu, if_true, Bool.false_eq_true, if_false,
        if_neg goesOn.1]
    rw [exec_stopRamp hm hx hr goesOn.2, rests]
    exact congrArg Host.Outcome.next (if_pos (by exact ⟨rfl, hu⟩)).symm
  case linger =>
    intro s x hm hx
    have stops : exec .lingerExpiry s = .next (s.stopMotion.hold none) := by
      show execLingerExpiry s = _
      simp only [execLingerExpiry, hm, hx, Option.isSome_some, and_self, if_true]
    rw [stops]
    refine ⟨_, rfl, ?_⟩
    simp [stopMotion_xp, stopMotion_wch, State.hold]
  case limit =>
    intro s x hm hx hs hr
    have released := rewindFailed_released hr
    have idle : s.rewindFailed.seq.state = .idle := by rw [released.seq]; exact hs
    rw [exec_rewindLimit hm hx, terminalChange_idle (by rw [idle]; rfl),
      abortingCheck_of_state (by rw [idle]; nofun)]
    exact ⟨_, rfl, released.motion, rewindFailed_rewindTimer hr, released.unloadInd,
      rewindFailed_pos hr, released.seq, released.pool, rewindFailed_host hr, released.stream,
      released.pending⟩
  case limitEnds =>
    intro s x p hm hx hr hd room hp
    have released := rewindFailed_released hr
    have host := rewindFailed_host hr
    have timer := rewindFailed_rewindTimer hr
    have pos := rewindFailed_pos hr
    have gives := entryGivesBack_congr hp released.seq released.pool released.stream
    obtain ⟨back, wch⟩ := fate_givenBack gives
    have ended := back.ended (by rw [host]; exact room) (.terminal rfl) (o := .transportFault)
    obtain ⟨xp, -⟩ := back.endEntry_atRest (by rw [host]; exact room) (.terminal rfl)
      (released.rest (by decide)) (o := .transportFault)
    obtain ⟨file, block⟩ := buildResult_unknown (s := s.rewindFailed) rfl .transportFault
    rw [exec_rewindLimit hm hx, terminalChange_runs gives,
      abortingCheck_of_state (by rw [ended.seq]; nofun)]
    refine ⟨_, _, rfl, listEndedWith_congr ended.list (by rw [host]) (by rw [released.seq])
      released.pending, congrArg Sequencer.record released.seq,
      congrArg Sequencer.cur released.seq, file, block, ?_⟩
    rw [xp, ended.pos, ended.pool, ended.tagMem, ended.stream, ended.capture]
    exact ⟨released.motion, timer, released.held, released.unloadInd, pos, rfl, rfl, released.stream,
      released.capture⟩
  case none =>
    intro s hr hl hw
    have start : execStartRampExpiry s = .next s := by simp [execStartRampExpiry, hr]
    have stop : execStopRampExpiry s = .next s := by simp [execStopRampExpiry, hr]
    have linger : execLingerExpiry s = .next s := by simp [execLingerExpiry, hl]
    have rewind : execRewindLimitExpiry s = .next s := by simp [execRewindLimitExpiry, hw]
    exact ⟨start, stop, linger, rewind⟩

end Sys2Proof.Machine
end

section
/-! SUPPORT. ERASE units, and the work that waits at the write channel for RUNNING forward (R53, R60, R98,
R111, R144, R156). -/

namespace Sys2Proof.Machine

/-! ## The operation of an entry (R47) -/

/-- The operation of a main entry is the one that has its code. -/
theorem mainOp_of_code {e : ListEntry} {o : Op} (ho : o ∈ mainOps) (h : e.opcode = o.code) :
    e.mainOp = some o := by
  have named : ∀ o ∈ mainOps, opOf mainOps o.code = some o := by decide
  rw [ListEntry.mainOp, h]
  exact named o ho

/-- The entries that move the tape forward from their first unit. -/
theorem ListEntry.forward_iff (e : ListEntry) :
    e.forward = true ↔ e.opcode ∈ ([0x01, 0x02, 0x03, 0x04, 0x06, 0x08] : List Byte) := by
  rcases opOf_cases mainOps e.opcode with ⟨h, hn⟩ | ⟨o, ho, h, hc⟩
  · rw [ListEntry.forward, ListEntry.mainOp, h]
    refine iff_of_false nofun fun k => hn ?_
    revert k
    generalize e.opcode = c
    revert c
    decide
  · rw [ListEntry.forward, ListEntry.mainOp, h, ← hc]
    cases o <;> decide

namespace State

variable {s t : State} {p : Pool} {u : WUnit} {f : Nat} {x : Byte}

/-! ## The checks before a unit (R60, R156) -/

theorem unitCheck_eq (s : State) : s.unitCheck =
    if s.entry.writes = true ∧ s.xp.levels.wpermit = false then some .writeProtected
    else if s.entry.writes = true ∧ s.pos.zone = .unknown then some .positionUnknown
    else if s.entry.forward = true ∧ s.xp.levels.eom = true then some .eomMet
    else none := by
  unfold State.unitCheck State.writeCheck
  cases s.entry.writes <;> cases s.entry.forward <;> cases s.xp.levels.wpermit <;>
    by_cases hz : s.pos.zone = .unknown <;> simp [hz]

/-- The checks that a unit of an entry that writes passes. -/
theorem unitCheck_passed (h : s.MayWrite) : s.unitCheck = none := by
  simp [unitCheck_eq, h.wpermit, h.zone, h.eom]

/-! ## ERASE units (R53, R111) -/

/-- An ERASE unit's FORWARD request is taken, and the unit takes its place at the channel. -/
theorem beginEraseUnit_taken (he : s.xp.levels.eom = false) (hm : s.MayForward) :
    ∃ t, s.beginEraseUnit = (t.placeErase, .taken) ∧ ForwardTaken s.takeFramePeriod t := by
  obtain ⟨t, request, taken⟩ := requestDir_forward (s := s.takeFramePeriod) he hm
  exact ⟨t, by rw [State.beginEraseUnit, request], taken⟩

theorem beginUnit_erase (hc : s.entry.opcode = 0x08) (h : s.MayWrite) (hm : s.MayForward) :
    ∃ t, s.beginUnit = (t.placeErase, none) ∧ UnitBegun s .erase s.pool t := by
  have check : (s.setSeqState .running).unitCheck = none :=
    unitCheck_passed ⟨h.wpermit, h.zone, h.eom⟩
  have op : s.entry.mainOp = some .erase := mainOp_of_code (by decide) hc
  obtain ⟨t, begins, taken⟩ := beginEraseUnit_taken (s := (s.setSeqState .running).setWork .erase)
    (by simpa using h.eom) (by simpa [MayForward] using hm)
  refine ⟨t, ?_, ?_⟩
  · simp only [State.beginUnit, check, setSeqState_entry, op, State.beginErase, begins,
      State.afterRequest]
  · constructor
    case dir => exact taken.dir
    case motion => simpa using taken.motion
    case ramp => simpa using taken.ramp
    case deferred => simpa using taken.deferred
    case timing => simpa using taken.timing
    case levels => simpa using taken.levels
    case wch => simpa [State.takeFramePeriod, State.setSeqState] using taken.wch
    case phase => simpa [State.takeFramePeriod, State.setSeqState] using taken.phase
    case seq => simpa [State.takeFramePeriod, State.setSeqState] using taken.seq
    case pool => simpa [State.takeFramePeriod, State.setSeqState] using taken.pool
    case host => simpa [State.takeFramePeriod, State.setSeqState] using taken.host
    case pos => simpa [State.takeFramePeriod, State.setSeqState] using taken.pos
    case stream => simpa [State.takeFramePeriod, State.setSeqState] using taken.stream
    case capture => simpa [State.takeFramePeriod, State.setSeqState] using taken.capture
    case pending => simpa [State.takeFramePeriod, State.setSeqState] using taken.pending

/-- The write channel as an erase begins under the erase gate. -/
def erasing (s : State) : WriteChannel := { s.wch with
  phase := .erasing, unit := none, held := none, checkWritten := false, wgate := false, egate := true
  gapTimer := .stopped, eraseTimer := some s.xp.timing.eraseLength, watchTimer := none
  deadline := none, verify := none }

/-- Where the gates may be on, an erase begins with its gate and its timer, and truncates the file map. -/
theorem startErasing_eq (hg : s.mayGate = true) (hz : s.pos.zone ≠ .unknown)
    (hf : s.pos.file = some f) : s.startErasing = { s with
      wch := s.erasing
      pos := { s.pos with map := s.pos.map.filter (fun e => e.1 < f) } } := by
  have gated : ∀ w, (s.setWch w).eraseOn = s.setWch { w with egate := true } := fun w => if_pos hg
  have truncated : s.pos.erasingBegun =
      { s.pos with map := s.pos.map.filter (fun e => e.1 < f) } := by
    simp only [Position.erasingBegun, if_neg hz, Position.truncate, hf, mapTruncate]
  rw [State.startErasing, gated, ← truncated]
  rfl

/-! ## Work held until RUNNING forward (R98, R111) -/

/-- With no burst in progress the channel leaves IDLE alone. -/
theorem endBurstAtWrite_silent (hr : s.rch.phase = .silent) : s.endBurstAtWrite = s := by
  simp [State.endBurstAtWrite, State.inBurst, hr]

theorem beginHeldWrite_begins (hu : s.wch.held = some (.write u)) (hp : s.wch.phase = .idle)
    (hg : s.mayGate = true) (hr : s.rch.phase = .silent) :
    s.beginHeldWrite = s.setWch { WriteChannel.reset with
      phase := .gap, unit := some u, gapTimer := .running s.xp.timing.writeGap, egate := true } := by
  obtain ⟨running, wpermit⟩ := Bool.and_eq_true_iff.mp hg
  have gated : ∀ w, (s.setWch w).eraseOn = s.setWch { w with egate := true } := fun w => if_pos hg
  simp only [State.beginHeldWrite, hu, hp, running, wpermit, and_self, if_true, State.freshGap,
    endBurstAtWrite_silent hr, gated]

theorem beginHeldErase_begins (hu : s.wch.held = some .erase) (hp : s.wch.phase = .idle)
    (hg : s.mayGate = true) (hr : s.rch.phase = .silent) : s.beginHeldErase = s.startErasing := by
  obtain ⟨running, wpermit⟩ := Bool.and_eq_true_iff.mp hg
  simp only [State.beginHeldErase, hu, hp, running, wpermit, and_self, if_true,
    endBurstAtWrite_silent hr]

/-! ## The erase timer (R53, R111) -/

theorem settleChannel_erased (hp : s.wch.phase = .erasing) (ht : s.wch.eraseTimer = none) :
    s.settleChannel = s.channelIdle := by
  simp only [State.settleChannel, hp, ht, if_true]

theorem settleChannel_erasing (hp : s.wch.phase = .erasing) (ht : s.wch.eraseTimer = some x) :
    s.settleChannel = s := by
  simp only [State.settleChannel, hp, ht, reduceCtorEq, if_false]

/-- The state in which the erase timer has run out. -/
def eraseOut (s : State) : State := s.setWch { s.wch with eraseTimer := none }

/-- The ERASE unit that runs is over and counted. -/
theorem exec_eraseTimer (hp : s.wch.phase = .erasing) (hx : s.wch.eraseTimer = some x)
    (hs : s.seq.state = .running) (hw : s.seq.work = .erase) : exec .eraseTimerExpiry s =
      .next (carryOut ((s.eraseOut.setPool s.pool).record
        EntryRecord.done).unitOver).settleChannel := by
  have unit : s.eraseOut.eraseDone =
      ((s.eraseOut.setPool s.pool).record EntryRecord.done).unitOver := by
    have work : s.eraseOut.seq.work = .erase := hw
    have runs : s.eraseOut.seq.state.unitRuns = true := by
      show s.seq.state.unitRuns = true
      rw [hs]
      rfl
    simp only [State.eraseDone, work, runs, if_true]
    rfl
  have timer : s.wch.eraseTimer.isSome = true := by simp [hx]
  rw [← unit]
  exact congrArg Host.Outcome.next (if_pos ⟨hp, timer⟩)

/-- The next ERASE unit goes on at once where the one before is over. -/
theorem eraseUnit_next (hs : s.seq.state = .running) (hp : s.wch.phase = .erasing)
    (h : s.unitFollows) (hc : s.entry.opcode = 0x08) (hw : s.MayWrite) (hm : s.xp.motion = .running)
    (hd : s.xp.dir = .forward) : ∃ t,
      carryOut ((s.setPool s.pool).record EntryRecord.done).unitOver = t.startErasing ∧
      NextBegun s .erase s.pool t ∧ t.xp.timing = s.xp.timing := by
  obtain ⟨t, begins, begun⟩ := beginUnit_erase (s := s.counted s.pool)
    (by rw [counted_entry]; exact hc) (counted_mayWrite hw _)
    (.inr ⟨by simpa using hm, by simpa using hd⟩)
  rw [counted_pool] at begun
  have next := begun.next hs hm
  refine ⟨t, ?_, next, begun.timing.trans (by rw [counted_xp])⟩
  have place : t.placeErase = t.startErasing := by
    simp only [State.placeErase, next.wch, hp]
  rw [counted_next h, begins, place]
  rfl

end State

open State in
/-- Settles O41: the work that waited begins, and the ERASE unit that is over ends its list or goes on. -/
theorem heldWorkAndErasing : Obligations.HeldWorkAndErasing := by
  refine ⟨?gap, ?erase, ?nothing, ?last, ?next, ?outside⟩
  case gap =>
    intro s u hu hp hm hd hw hr
    exact congrArg Host.Outcome.next
      (beginHeldWrite_begins hu hp (mayGate_of_running hm hd hw) hr)
  case erase =>
    intro s f hu hp hm hd hw hr hz hf
    have gate := mayGate_of_running hm hd hw
    have begins : exec .erasingBeginOnRunning s = .next s.startErasing :=
      congrArg Host.Outcome.next (beginHeldErase_begins hu hp gate hr)
    rw [startErasing_eq gate hz hf] at begins
    exact ⟨_, begins, rfl, rfl, rfl, rfl, rfl, rfl⟩
  case nothing =>
    intro s h
    exact ⟨congrArg Host.Outcome.next (beginHeldWrite_none h),
      congrArg Host.Outcome.next (beginHeldErase_none h)⟩
  case last =>
    intro s x hp hx hs hw hc hl hr hm
    have last : carryOut ((s.eraseOut.setPool s.pool).record EntryRecord.done).unitOver =
        (s.eraseOut.counted s.pool).endEntry .done := by
      rw [counted_last (s := s.eraseOut) hc]
      rfl
    have done := counted_lastDone (s := s.eraseOut) (p := s.pool) hc hl hr
    obtain ⟨motion, -, -, wch⟩ := endEntry_stopped (u := s.eraseOut.counted s.pool)
      (by rw [counted_host]; exact hr) (counted_ends hl) (by rw [counted_xp]; exact hm)
      (by rw [counted_wch]; simp [eraseOut, hp])
    have settled : ((s.eraseOut.counted s.pool).endEntry .done).settleChannel =
        ((s.eraseOut.counted s.pool).endEntry .done).channelIdle :=
      settleChannel_erased (by rw [wch]; simpa [eraseOut] using hp)
        (by rw [wch]; simp [eraseOut])
    obtain ⟨results, outcome, -, ended, state, -, cause, -, pending⟩ := done.list
    rw [exec_eraseTimer hp hx hs hw, last, settled]
    have gone := done.record
    have pool := done.pool
    have pos := done.pos
    have stream := done.stream
    have capture := done.capture
    clear settled wch last
    generalize (s.eraseOut.counted s.pool).endEntry .done = e at *
    exact ⟨e.channelIdle, _, rfl, rfl, results, outcome, gone, state, cause, ended, motion, pool, pos,
      stream, capture, pending⟩
  case next =>
    intro s x f hp hx hs hw hu hc hm hd hpermit he hz hf
    obtain ⟨t, erases, next, timing⟩ :=
      eraseUnit_next (s := s.eraseOut) hs hp hu hc ⟨hpermit, hz, he⟩ hm hd
    have gate := mayGate_of_running next.motion next.dir (by rw [next.levels]; exact hpermit)
    have pos : t.pos = s.pos := next.pos
    have begins := startErasing_eq gate (by rw [pos]; exact hz) (by rw [pos]; exact hf)
    have erases' : carryOut ((s.eraseOut.setPool s.pool).record EntryRecord.done).unitOver =
      t.startErasing := erases
    rw [exec_eraseTimer hp hx hs hw, erases', settleChannel_erasing (by rw [begins]; rfl)
      (by rw [begins]; rfl), begins, pos]
    exact ⟨_, rfl, next.seq, rfl, timing ▸ rfl, rfl, rfl, next.motion, next.dir, rfl, next.pool,
      next.host, next.stream, next.capture, next.pending⟩
  case outside =>
    intro s h
    exact congrArg Host.Outcome.next (if_neg fun k => h k.1)

end Sys2Proof.Machine
end

section
/-! SUPPORT. The entry that follows the current one, and the results that waited for room (R47, R59, R64,
R68, R73, R153, R190). -/

namespace Sys2Proof.Machine

namespace State

variable {s t u v : State} {o : EntryOutcome} {c : EndCause} {w : Work} {d : Dir} {p : Result}

/-! ## An entry that ends its list (R64, R65, R71) -/

/-- With the stop indication set, an outcome that would let the list go on ends it STOPPED. -/
theorem goOn_stopped (ht : o.terminal = false) (ho : o ≠ .stopped)
    (hh : (o.short && s.entry.haltOnShort) = false) (hi : s.seq.stopInd = true)
    (hf : s.entryFollows) : s.goOn o = (s.listEnd .stopped, false) := by
  have more : (decide (s.seq.ctl.mainLength ≤ s.seq.cur.val + 1) && !s.seq.ctl.cycle) = false := by
    rcases hf with hn | hc
    · simp [Nat.not_le.mpr hn]
    · simp [hc]
  simp [State.goOn, ht, ho, hh, hi, Bool.and_assoc, more]

/-- An entry whose outcome ends the list is over with its list. -/
theorem endEntry_ends (hr : u.host.results.length < 16)
    (h : (u.entryClosed o).goOn o = ((u.entryClosed o).listEnd c, false)) :
    u.endEntry o = (u.entryClosed o).listEnd c := by
  rw [State.endEntry, settleEntry_room o hr, h]
  rfl

theorem entryOver_of_listEnd (h : u.endEntry o = (u.entryClosed o).listEnd c) :
    EntryOver u o c (u.endEntry o) := by
  rw [h]
  constructor
  case results => simpa [HostPort.flagged] using entryClosed_results o u
  case event => intro e; rw [listEnd_event, entryClosed_event]
  case cmdstat => simp [HostPort.flagged, entryClosed, State.joinResult, State.setEpisode]
  case seq => simp
  all_goals simp

/-! ## SPACE and SEEK entries that begin (R47, R51, R52, R59) -/

/-- An entry whose unit has the work `w` has begun, its motion not yet requested. -/
def passUnit (w : Work) (s : State) : State :=
  ((((s.setSeqState .running).record fun _ => .clear).setSeqState .running).takeFramePeriod).setWork w

@[simp] theorem passUnit_seq (w : Work) (s : State) : (s.passUnit w).seq =
    { s.seq with state := .running, record := .clear, work := w } := by
  simp [passUnit, State.takeFramePeriod, State.setSeqState, State.record]
@[simp] theorem passUnit_host (w : Work) (s : State) : (s.passUnit w).host = s.host := by
  simp [passUnit, State.takeFramePeriod, State.setSeqState, State.record]
@[simp] theorem passUnit_pool (w : Work) (s : State) : (s.passUnit w).pool = s.pool := by
  simp [passUnit, State.takeFramePeriod, State.setSeqState, State.record]
@[simp] theorem passUnit_pos (w : Work) (s : State) : (s.passUnit w).pos = s.pos := by
  simp [passUnit, State.takeFramePeriod, State.setSeqState, State.record]
@[simp] theorem passUnit_tagMem (w : Work) (s : State) :
    (s.passUnit w).rch.tagMem = s.rch.tagMem := by
  simp [passUnit, State.takeFramePeriod, State.setSeqState, State.record]
@[simp] theorem passUnit_stream (w : Work) (s : State) : (s.passUnit w).stream = s.stream := by
  simp [passUnit, State.takeFramePeriod, State.setSeqState, State.record]
@[simp] theorem passUnit_capture (w : Work) (s : State) : (s.passUnit w).capture = s.capture := by
  simp [passUnit, State.takeFramePeriod, State.setSeqState, State.record]
@[simp] theorem passUnit_pending (w : Work) (s : State) : (s.passUnit w).pending = s.pending := by
  simp [passUnit, State.takeFramePeriod, State.setSeqState, State.record]
theorem passUnit_xp (w : Work) (s : State) :
    ∃ b, (s.passUnit w).xp = { s.xp with blankTimer := b } :=
  setWork_xp w _

@[simp] theorem passUnit_motion (w : Work) (s : State) :
    (s.passUnit w).xp.motion = s.xp.motion := by
  obtain ⟨b, xp⟩ := passUnit_xp w s
  rw [xp]
@[simp] theorem passUnit_dir (w : Work) (s : State) : (s.passUnit w).xp.dir = s.xp.dir := by
  obtain ⟨b, xp⟩ := passUnit_xp w s
  rw [xp]
@[simp] theorem passUnit_levels (w : Work) (s : State) :
    (s.passUnit w).xp.levels = s.xp.levels := by
  obtain ⟨b, xp⟩ := passUnit_xp w s
  rw [xp]
@[simp] theorem passUnit_timing (w : Work) (s : State) :
    (s.passUnit w).xp.timing = s.xp.timing := by
  obtain ⟨b, xp⟩ := passUnit_xp w s
  rw [xp]

/-- The checks of an entry that passes blocks or marks, on a transport that takes motion requests
(R59). -/
theorem entryCheck_passes (hc : PassCode s.entry.opcode w d)
    (hm : s.xp.motion ∉ [.noCartridge, .notReady, .fault])
    (hf : d = .forward → s.xp.levels.eom = false) : s.entryCheck = none := by
  have check := unitCheck_pass hc hf
  have reads : s.entry.writes = false := by
    rcases mainOp_of_passCode hc with ⟨-, -, h⟩ | ⟨-, -, h⟩ | ⟨-, -, h⟩ | ⟨-, -, h⟩ <;>
      simp [ListEntry.writes, h]
  simp only [List.mem_cons, List.not_mem_nil, or_false, not_or] at hm
  unfold State.entryCheck
  split
  · next h => exact absurd h hm.1
  · next h => exact absurd h hm.2.1
  · simp [hm.2.2, check, ListEntry.stopAtEw, reads]

/-- A SPACE or SEEK entry begins with the request of its motion. -/
theorem startEntry_pass (hc : PassCode s.entry.opcode w d)
    (hm : s.xp.motion ∉ [.noCartridge, .notReady, .fault])
    (hf : d = .forward → s.xp.levels.eom = false)
    (h : (s.passUnit w).requestDir d = (t, .taken)) : s.startEntry = (t, none) := by
  let fresh := (s.setSeqState .running).record fun _ => .clear
  have code : PassCode fresh.entry.opcode w d := by simpa [fresh] using hc
  have check : fresh.entryCheck = none := entryCheck_passes code hm hf
  have unit : (fresh.setSeqState .running).unitCheck = none :=
    unitCheck_pass (by rwa [setSeqState_entry]) hf
  have begins : fresh.beginUnit = (fresh.setSeqState .running).beginPass w d := by
    rcases mainOp_of_passCode code with ⟨rfl, rfl, op⟩ | ⟨rfl, rfl, op⟩ | ⟨rfl, rfl, op⟩ |
        ⟨rfl, rfl, op⟩ <;>
      simp [State.beginUnit, unit, op]
  have asked : ((((fresh.setSeqState .running).takeFramePeriod).setWork w).requestDir d) =
    (t, .taken) := h
  simp only [State.startEntry, fresh] at check begins asked ⊢
  rw [check]
  simp only [begins, State.beginPass, asked, State.afterRequest]

theorem runEntries_begun (k : Nat) (h : s.startEntry = (t, none)) : s.runEntries (k + 1) = t := by
  simp only [State.runEntries, h]

/-- A FORWARD request that a tape in STOPPING holds (R153). -/
theorem requestDir_held (he : s.xp.levels.eom = false) (hm : s.xp.motion = .stopping) :
    s.requestDir .forward = (s.hold (some (.dir .forward)), .taken) := by
  simp [State.requestDir, he, State.takeDir, hm]

/-! ## The list goes on (R47, R64) -/

/-- The list stands in `v` where it stands in `s`: at the same entry of the same list, not ended, with
the same stop indication. -/
structure OnList (s v : State) : Prop where
  cur : v.seq.cur = s.seq.cur
  ctl : v.seq.ctl = s.seq.ctl
  cycle : v.seq.cycle = s.seq.cycle
  stopInd : v.seq.stopInd = s.seq.stopInd
  endCause : v.seq.endCause = s.seq.endCause
  listMem : v.seq.listMem = s.seq.listMem
  listEnded : v.event .listEnded = s.event .listEnded
  pending : v.pending = s.pending

namespace OnList

theorem entry (h : s.OnList v) : v.entry = s.entry := entry_congr h.listMem h.cur

theorem nextIndex (h : s.OnList v) : v.nextIndex = s.nextIndex := by
  simp only [State.nextIndex, h.cur, h.ctl]

theorem entryFollows (h : s.OnList v) (hf : s.entryFollows) : v.entryFollows := by
  simpa only [State.entryFollows, h.cur, h.ctl] using hf

theorem passFollows (h : s.OnList v) (hf : s.passFollows w) : v.passFollows w := by
  simpa only [State.passFollows, State.entryFollows, h.nextIndex, h.cur, h.ctl, Sequencer.main,
    Sequencer.entryAt, h.listMem] using hf

theorem trans (h : s.OnList u) (k : u.OnList v) : s.OnList v where
  cur := k.cur.trans h.cur
  ctl := k.ctl.trans h.ctl
  cycle := k.cycle.trans h.cycle
  stopInd := k.stopInd.trans h.stopInd
  endCause := k.endCause.trans h.endCause
  listMem := k.listMem.trans h.listMem
  listEnded := k.listEnded.trans h.listEnded
  pending := k.pending.trans h.pending

theorem entryClosed (o : EntryOutcome) (s : State) : s.OnList (s.entryClosed o) where
  cur := by simp
  ctl := by simp
  cycle := by simp
  stopInd := by simp
  endCause := by simp
  listMem := by simp
  listEnded := by rw [entryClosed_event]; simp
  pending := by simp

end OnList

/-- The entry that follows is the current one, not yet begun. -/
def followed (s : State) : State := s.setSeq { s.seq with
  cur := s.nextIndex
  cycle := if s.seq.cur.val + 1 < s.seq.ctl.mainLength then s.seq.cycle else s.seq.cycle + 1 }

/-- A SPACE_FWD or SEEK_FWD entry follows, and its request is taken. -/
theorem nextEntry_pass (ht : o.terminal = false) (ho : o ≠ .stopped)
    (hh : (o.short && v.entry.haltOnShort) = false) (hi : v.seq.stopInd = false)
    (hf : v.passFollows w) (hm : v.xp.motion ∉ [.noCartridge, .notReady, .fault])
    (he : v.xp.levels.eom = false)
    (h : (v.followed.passUnit w).requestDir .forward = (t, .taken)) :
    State.nextEntry (v.goOn o) = t := by
  obtain ⟨follows, code⟩ := hf
  have current : v.followed.entry = v.seq.main v.nextIndex.val := by
    simp [followed, State.entry, Sequencer.main, Sequencer.entryAt]
  have pass : PassCode v.followed.entry.opcode w .forward := by
    rw [current]
    exact code.imp (fun c => ⟨c.2, c.1⟩) (fun c => ⟨c.2, c.1⟩)
  have begins := startEntry_pass pass (by exact hm) (fun _ => by exact he) h
  rw [goOn_next ht ho hi hh follows]
  exact runEntries_begun 16 begins

/-- Where the request left the sequencer and the host port alone, the list has gone on. -/
theorem OnList.wentOn (h : s.OnList v) (hseq : t.seq = (v.followed.passUnit w).seq)
    (hhost : t.host = v.host) (hpending : t.pending = v.pending) : s.wentOn t w := by
  rw [passUnit_seq] at hseq
  refine ⟨by rw [hseq], by rw [hseq]; exact h.nextIndex, by rw [hseq], by rw [hseq], ?_,
    by rw [hseq]; exact h.stopInd, by rw [hseq]; exact h.endCause, by rw [hseq]; exact h.listMem,
    (event_eq_of_host (by rw [hhost]) _).trans h.listEnded, hpending.trans h.pending⟩
  rw [hseq]
  simp only [followed, State.setSeq_seq, h.cur, h.ctl, h.cycle]

/-! ## Results that waited for room (R68, R70, R73, R190) -/

/-- The pending result has joined the result queue. -/
def posted (p : Result) (s : State) : State := (s.setPending none).joinResult p

@[simp] theorem posted_seq (p : Result) (s : State) :
    (s.posted p).seq = { s.seq with pendingResult := none } := rfl
@[simp] theorem posted_xp (p : Result) (s : State) : (s.posted p).xp = s.xp := rfl
@[simp] theorem posted_results (p : Result) (s : State) :
    (s.posted p).host.results = s.host.results ++ [p] := rfl

theorem posted_event (p : Result) (s : State) (e : Event) :
    (s.posted p).event e = (s.event e || decide (Event.resultPosted = e)) := by
  rw [posted, State.joinResult, event_raise]
  congr 1

theorem posted_onList (p : Result) (s : State) : s.OnList (s.posted p) where
  cur := rfl
  ctl := rfl
  cycle := rfl
  stopInd := rfl
  endCause := rfl
  listMem := rfl
  listEnded := by rw [posted_event]; simp
  pending := rfl

theorem exec_pendingPosted (hp : s.seq.pendingResult = some p) (hr : s.host.results.length < 16) :
    exec .pendingResultPosted s = .next (s.postPending p) := by
  have room : s.resultRoom = true := decide_eq_true hr
  show execPendingResultPosted s = _
  simp only [execPendingResultPosted, State.servePending, hp, room, if_true]

/-- POST_WAIT goes on as the outcome of its result says. -/
theorem postPending_postWait (hs : s.seq.state = .postWait) :
    s.postPending p = State.nextEntry ((s.posted p).goOn p.outcome) := if_pos hs

theorem postPending_aborting (hs : s.seq.state = .aborting) :
    s.postPending p = (s.posted p).abortingCheck :=
  if_neg (by simp [State.joinResult, State.setPending, State.raise, hs])

/-- From `s`, the result `p` has joined the queue in `t`, and the list has ended with a cause. -/
structure EndedPosted (s : State) (p : Result) (c : EndCause) (t : State) : Prop where
  list : s.listEndedWith t p p.outcome c
  pendingResult : t.seq.pendingResult = none
  host : t.host = (s.posted p).host.flagged .listEnded
  pool : t.pool = s.pool
  pos : t.pos = s.pos

theorem posted_listEnd (h : (s.posted p).goOn p.outcome = ((s.posted p).listEnd c, false))
    (hs : s.seq.state = .postWait) : EndedPosted s p c (s.postPending p) := by
  have ends : s.postPending p = (s.posted p).listEnd c := by rw [postPending_postWait hs, h]; rfl
  rw [ends]
  constructor
  case list =>
    refine ⟨by rw [listEnd_host]; rfl, rfl, ?_, ?_, by simp, by simp, by simp, by simp,
      by rw [listEnd_pending]; rfl⟩
    · rw [listEnd_event, posted_event]; simp
    · rw [listEnd_event]; simp
  case pendingResult => simp
  case host => exact listEnd_host _ _
  case pool => rw [listEnd_pool]; rfl
  case pos => rw [listEnd_pos]; rfl

/-- The head has left the result queue, and `q` remains. -/
def headGone (q : List Result) (s : State) : State :=
  { s with host := { s.host.answered .accepted with results := q, resptr := 0 } }

/-- RESULT_ADVANCE takes the head off, and a pending result is then served. -/
theorem exec_resultAdvance {r : Result} {q : List Result} (h : s.host.results = r :: q) :
    exec .resultAdvance s = exec .pendingResultPosted (s.headGone q) := by
  have head : s.touch.host.results = r :: q := h
  show execResultAdvance s = _
  simp only [execResultAdvance, State.advanceResult, head]
  rfl

theorem exec_pendingPosted_none (h : s.seq.pendingResult = none ∨ 16 ≤ s.host.results.length) :
    exec .pendingResultPosted s = .next s := by
  refine congrArg Host.Outcome.next ?_
  cases hp : s.seq.pendingResult with
  | none => simp only [State.servePending, hp]
  | some p =>
    have full : s.resultRoom = false :=
      decide_eq_false (Nat.not_lt.mpr (h.resolve_left (by simp [hp])))
    simp only [State.servePending, hp, full, Bool.false_eq_true, if_false]

/-- An outcome that lets the list go on, or ends it STOPPED. -/
theorem outcome_goesOn {b : Bool} (h : o = .done ∨
    (o ∈ [.fileMarkMet, .bomMet, .blankMet, .ewMet] ∧ b = false)) :
    o.terminal = false ∧ o ≠ .stopped ∧ (o.short && b) = false := by
  rcases h with rfl | ⟨h, rfl⟩
  · cases b <;> decide
  · revert o
    decide

/-- A terminal result that was pending ends the list. -/
theorem postPending_terminal (hs : s.seq.state = .postWait) (ht : p.outcome.terminal = true) :
    EndedPosted s p .terminal (s.postPending p) :=
  posted_listEnd (EndsList.terminal ht).goOn hs

/-- From `s`, the list has gone on in `t` to a forward SPACE or SEEK entry, the pending result posted. -/
structure WentOnPosted (s : State) (p : Result) (w : Work) (t : State) : Prop where
  results : t.host.results = s.host.results ++ [p]
  flag : t.event .resultPosted = true
  pendingResult : t.seq.pendingResult = none
  wentOn : s.wentOn t w
  motion : t.xp.motion = if s.xp.motion = .stopped then .starting else .running
  dir : t.xp.dir = .forward
  linger : t.xp.lingerTimer = none
  tagMem : t.rch.tagMem = s.rch.tagMem
  pool : t.pool = s.pool
  pos : t.pos = s.pos
  stream : t.stream = s.stream
  capture : t.capture = s.capture

theorem postPending_wentOn (hs : s.seq.state = .postWait) (ht : p.outcome.terminal = false)
    (ho : p.outcome ≠ .stopped) (hh : (p.outcome.short && s.entry.haltOnShort) = false)
    (hi : s.seq.stopInd = false) (hf : s.passFollows w) (he : s.xp.levels.eom = false)
    (hm : s.MayForward) : WentOnPosted s p w (s.postPending p) := by
  have list := posted_onList p s
  have motion : (s.posted p).xp.motion ∉ [.noCartridge, .notReady, .fault] := by
    rcases hm with h | ⟨h, -⟩ <;> simp [h]
  obtain ⟨t, asked, taken⟩ := requestDir_forward (s := ((s.posted p).followed).passUnit w)
    (by rw [passUnit_levels]; exact he)
    (by rw [MayForward, passUnit_motion, passUnit_dir]; exact hm)
  have goes := nextEntry_pass (v := s.posted p) ht ho (by rw [list.entry]; exact hh) hi
    (list.passFollows hf) motion he asked
  rw [postPending_postWait hs, goes]
  have host : t.host = (s.posted p).host := by rw [taken.host, passUnit_host]; rfl
  have seq := taken.seq
  constructor
  case results => rw [host]; rfl
  case flag =>
    rw [event_eq_of_host (s := s.posted p) (by rw [host]), posted_event]
    simp
  case pendingResult => rw [seq, passUnit_seq]; rfl
  case wentOn => exact list.wentOn seq host (by rw [taken.pending, passUnit_pending]; rfl)
  case motion => rw [taken.motion, passUnit_motion]; rfl
  case dir => exact taken.dir
  case linger => exact taken.linger
  case tagMem => rw [taken.rch, passUnit_tagMem]; rfl
  case pool => rw [taken.pool, passUnit_pool]; rfl
  case pos => rw [taken.pos, passUnit_pos]; rfl
  case stream => rw [taken.stream, passUnit_stream]; rfl
  case capture => rw [taken.capture, passUnit_capture]; rfl

end State

open State in
/-- Settles O14: what follows the post of a result that was pending, by the sequencer's state and the
result's outcome. -/
theorem resultQueueAdvances : Obligations.ResultQueueAdvances := by
  refine ⟨?empty, ?plain, ?advanceTerminal, ?terminal, ?goesOn, ?aborting, ?advance, ?stays⟩
  case empty =>
    intro s h
    have none : s.touch.host.results = [] := h
    show execResultAdvance s = _
    simp only [execResultAdvance, State.advanceResult, none]
    rfl
  case plain =>
    intro s r q h hp
    exact (exec_resultAdvance h).trans (exec_pendingPosted_none (.inl hp))
  case advanceTerminal =>
    intro s r q p h hq hp hs ht
    have finish := postPending_terminal (s := s.headGone q) (p := p) hs ht
    obtain ⟨results, -, posted, ended, state, -, cause, -⟩ := finish.list
    have top : ((s.headGone q).posted p).host.resptr = 0 := ite_self 0
    exact ⟨_, (exec_resultAdvance h).trans (exec_pendingPosted hp hq), by rw [finish.host]; rfl,
      results, by rw [finish.host]; exact top, finish.pendingResult, state, cause, posted, ended⟩
  case terminal =>
    intro s p hp hr hs ht
    have finish := postPending_terminal hs ht
    obtain ⟨results, -, posted, ended, state, -, cause, -⟩ := finish.list
    exact ⟨_, exec_pendingPosted hp hr, results, finish.pendingResult, state, cause, posted, ended⟩
  case goesOn =>
    intro s p w hp hr hs ho
    obtain ⟨terminal, stopped, short⟩ := outcome_goesOn ho
    refine ⟨fun hi hf he hm => ?_, fun hi hf => ?_⟩
    · have on := postPending_wentOn hs terminal stopped short hi hf he hm
      exact ⟨_, exec_pendingPosted hp hr, on.results, on.flag, on.pendingResult, on.wentOn, on.motion,
        on.dir, on.linger, on.tagMem, on.pool, on.pos, on.stream, on.capture⟩
    · have list := posted_onList p s
      have finish := posted_listEnd (goOn_stopped terminal stopped (by rw [list.entry]; exact short) hi
        (list.entryFollows hf)) hs
      exact ⟨_, exec_pendingPosted hp hr, finish.pendingResult, finish.list, finish.pool, finish.pos⟩
  case aborting =>
    intro s p hp hr hs
    rw [exec_pendingPosted hp hr, postPending_aborting hs]
    by_cases rest : s.xp.motion ∈ [.stopped, .noCartridge, .notReady, .fault]
    · rw [abortingCheck_ends (s := s.posted p) hs rfl ((Transport.atRest_iff _).mpr rest)]
      refine ⟨_, rfl, by rw [listOver_host]; rfl, ?_, by simp, fun _ => ⟨by simp, by simp, ?_⟩,
        fun k => absurd rest k, by simp, listOver_wch _ _, listOver_rch _ _, listOver_pool _ _,
        listOver_pos _ _, listOver_stream _ _, listOver_capture _ _, listOver_pending _ _⟩
      · rw [event_flagged .listEnded (listOver_host _ _) rfl, posted_event]; simp
      · rw [event_flagged .listEnded (listOver_host _ _) rfl]; simp
    · have moving : (s.posted p).abortingCheck = s.posted p :=
        if_neg fun k => rest ((Transport.atRest_iff _).mp k.2.1)
      rw [moving]
      refine ⟨_, rfl, rfl, ?_, rfl, fun k => absurd k rest, fun _ => ⟨hs, rfl, ?_⟩, rfl, rfl, rfl,
        rfl, rfl, rfl, rfl, rfl⟩
      · rw [posted_event]; simp
      · rw [posted_event]; simp
  case advance =>
    intro s r q p h hq hp
    exact exec_resultAdvance h
  case stays => exact fun s h => exec_pendingPosted_none h

end Sys2Proof.Machine
end

section
/-! SUPPORT. The tape at BOM in backward motion (R51, R54, R71, R136, R159 to R161). -/

namespace Sys2Proof.Machine

namespace State

variable {s t u v : State} {o : EntryOutcome} {c : EndCause} {w : Work}

/-! ## BOM rises -/

/-- The BOM level is present. -/
def bomSeen (s : State) : State := s.onLevels fun l => { l with bom := true }

/-- BOM reached: the tape stops by its ramp where it does not stop already. -/
def bomStopped (s : State) : State :=
  if s.xp.motion = .stopping then s.bomSeen.onPos .bomReached
  else (s.bomSeen.onPos .bomReached).stopMotion

/-- A part that BOM reached leaves. -/
theorem bomStopped_part {α : Sort _} (f : State → α)
    (h : ∀ s, f (State.stopMotion s) = f s) (s : State) :
    f s.bomStopped = f (s.bomSeen.onPos .bomReached) := by
  unfold bomStopped
  split
  · rfl
  · exact h _

@[simp] theorem bomStopped_seq (s : State) : s.bomStopped.seq = s.seq :=
  bomStopped_part State.seq (fun s => s.stopMotion_seq) s
@[simp] theorem bomStopped_host (s : State) : s.bomStopped.host = s.host :=
  bomStopped_part State.host (fun s => s.stopMotion_host) s
@[simp] theorem bomStopped_pool (s : State) : s.bomStopped.pool = s.pool :=
  bomStopped_part State.pool (fun s => s.stopMotion_pool) s
@[simp] theorem bomStopped_pos (s : State) : s.bomStopped.pos =
    { s.pos with zone := .atBom, file := some 0, block := some 0 } :=
  bomStopped_part State.pos (fun s => s.stopMotion_pos) s
@[simp] theorem bomStopped_stream (s : State) : s.bomStopped.stream = s.stream :=
  bomStopped_part State.stream (fun s => s.stopMotion_stream) s
@[simp] theorem bomStopped_capture (s : State) : s.bomStopped.capture = s.capture :=
  bomStopped_part State.capture (fun s => s.stopMotion_capture) s
@[simp] theorem bomStopped_pending (s : State) : s.bomStopped.pending = s.pending :=
  bomStopped_part State.pending (fun s => s.stopMotion_pending) s
@[simp] theorem bomStopped_dir (s : State) : s.bomStopped.xp.dir = s.xp.dir :=
  bomStopped_part (·.xp.dir) (fun s => by rw [stopMotion_xp]) s
@[simp] theorem bomStopped_levels (s : State) :
    s.bomStopped.xp.levels = { s.xp.levels with bom := true } :=
  bomStopped_part (·.xp.levels) (fun s => by rw [stopMotion_xp]) s
@[simp] theorem bomStopped_unloadInd (s : State) : s.bomStopped.xp.unloadInd = s.xp.unloadInd :=
  bomStopped_part (·.xp.unloadInd) (fun s => by rw [stopMotion_xp]) s
@[simp] theorem bomStopped_held (s : State) : s.bomStopped.xp.held = s.xp.held :=
  bomStopped_part (·.xp.held) (fun s => by rw [stopMotion_xp]) s

@[simp] theorem bomStopped_motion (s : State) : s.bomStopped.xp.motion = .stopping := by
  unfold bomStopped
  split
  · next h => exact h
  · rw [stopMotion_xp]

theorem bomStopped_ramping (h : s.xp.motion = .stopping) :
    s.bomStopped.xp.rampTimer = s.xp.rampTimer := by
  rw [bomStopped, if_pos h]
  rfl

/-- The stop ramp begins, and FAST keeps its level. -/
theorem bomStopped_ramps (h : s.xp.motion ≠ .stopping) :
    s.bomStopped.xp.rampTimer = some s.xp.timing.stopRamp ∧
      s.bomStopped.xp.fast = s.xp.fastLine ∧ s.bomStopped.xp.rewindTimer = none := by
  rw [bomStopped, if_neg h, stopMotion_xp]
  exact ⟨rfl, rfl, rfl⟩

/-- In REWINDING the FAST line is active (R149). -/
theorem bomStopped_rewound (h : s.xp.motion = .rewinding) : s.bomStopped.xp.fast = true ∧
    s.bomStopped.xp.rewindTimer = none ∧
    s.bomStopped.xp.rampTimer = some s.xp.timing.stopRamp := by
  obtain ⟨ramp, fast, rewind⟩ := bomStopped_ramps (s := s) (by simp [h])
  exact ⟨by rw [fast]; simp [Transport.fastLine, h], rewind, ramp⟩

/-! ## What BOM_RISE leads to, by the motion state (R159) -/

theorem onLevels_motion (f : Levels → Levels) (s : State) :
    (s.onLevels f).xp.motion = s.xp.motion := rfl
theorem onLevels_dir (f : Levels → Levels) (s : State) : (s.onLevels f).xp.dir = s.xp.dir := rfl

theorem exec_bomRise_rewinding (h : s.xp.levels.bom = false) (hm : s.xp.motion = .rewinding) :
    exec .bomRise s = .next (if s.xp.unloadInd = false ∧ s.seq.state.unitRuns = true ∧
      s.seq.work = .rewind then s.bomStopped.endEntry .done else s.bomStopped) := by
  have stops : s.bomStopped = (s.bomSeen.onPos .bomReached).stopMotion := if_neg (by simp [hm])
  show execBomRise s = _
  simp only [execBomRise, h, Bool.false_eq_true, if_false, onLevels_motion, hm]
  rw [← bomStopped_unloadInd, ← bomStopped_seq, stops]
  rfl

theorem exec_bomRise_reverse (h : s.xp.levels.bom = false) (hd : s.xp.dir = .reverse)
    (hm : s.xp.motion ∈ [.starting, .running, .stopping]) :
    exec .bomRise s = .next s.bomStopped.bomMet := by
  show execBomRise s = _
  simp only [List.mem_cons, List.not_mem_nil, or_false] at hm
  rcases hm with hm | hm | hm <;>
    simp only [execBomRise, bomStopped, h, Bool.false_eq_true, if_false, onLevels_motion,
      onLevels_dir, hm, hd, reduceCtorEq, if_true] <;>
    rfl

theorem exec_bomRise_unloading (h : s.xp.levels.bom = false) (hm : s.xp.motion = .unloading) :
    exec .bomRise s =
      .next (if s.pos.zone = .unknown then s.bomSeen else s.bomSeen.onPos .bomReached) := by
  show execBomRise s = _
  simp only [execBomRise, h, Bool.false_eq_true, if_false, onLevels_motion, hm]
  rfl

/-- At rest and in forward motion the level alone changes. -/
theorem exec_bomRise_level (h : s.xp.levels.bom = false)
    (hm : s.xp.motion ∈ [.stopped, .fault, .notReady, .noCartridge] ∨
      (s.xp.motion ∈ [.starting, .running, .stopping] ∧ s.xp.dir = .forward)) :
    exec .bomRise s = .next s.bomSeen := by
  show execBomRise s = _
  simp only [List.mem_cons, List.not_mem_nil, or_false] at hm
  simp only [execBomRise, h, Bool.false_eq_true, if_false, onLevels_motion, onLevels_dir]
  rcases hm with (hm | hm | hm | hm) | ⟨hm | hm | hm, hd⟩
  case inr.inl | inr.inr.inl | inr.inr.inr => simp only [hm, hd]; rfl
  all_goals simp only [hm]; rfl

/-- Of the units, BOM reached ends a reverse SPACE or SEEK. -/
theorem bomMet_ends (hs : s.seq.state ∈ [.running, .stopping])
    (hw : s.seq.work ∈ [.space .reverse, .seek .reverse]) : s.bomMet = s.endEntry .bomMet := by
  have runs : s.seq.state.unitRuns = true := by
    rcases List.mem_pair.mp hs with hs | hs <;> rw [hs] <;> rfl
  rcases List.mem_pair.mp hw with hw | hw <;> simp only [State.bomMet, runs, hw, if_true]

theorem bomMet_same (h : s.seq.state ∉ [.running, .stopping, .recovery] ∨
    s.seq.work ∉ [.space .reverse, .seek .reverse]) : s.bomMet = s := by
  unfold State.bomMet
  rcases h with h | h
  · have idle : s.seq.state.unitRuns = false ∧ s.seq.state ≠ .recovery := by
      revert h
      cases s.seq.state <;> decide
    simp only [idle, Bool.false_eq_true, if_false]
  · simp only [List.mem_cons, List.not_mem_nil, or_false, not_or] at h
    split
    · split
      · next hw => exact absurd hw h.1
      · next hw => exact absurd hw h.2
      · rfl
    · split
      · split
        · next hw => exact absurd hw h.1
        · rfl
      · rfl

/-! ## The entry that BOM ends (R51, R54, R64, R71, R153) -/

/-- BOM ends an entry's unit, a REWIND or a reverse SPACE or SEEK, with the outcome. -/
def BomEnds (s : State) (o : EntryOutcome) : Prop :=
  (s.xp.motion = .rewinding ∧ s.seq.work = .rewind ∧ s.xp.unloadInd = false ∧ o = .done) ∨
    (s.xp.motion ∈ [.starting, .running, .stopping] ∧ s.xp.dir = .reverse ∧
      s.seq.work ∈ [.space .reverse, .seek .reverse] ∧ o = .bomMet)

theorem exec_bomRise_ends (h : s.xp.levels.bom = false) (hb : s.BomEnds o)
    (hs : s.seq.state ∈ [.running, .stopping]) :
    exec .bomRise s = .next (s.bomStopped.endEntry o) := by
  rcases hb with ⟨hm, hw, hu, rfl⟩ | ⟨hm, hd, hw, rfl⟩
  · have runs : s.seq.state.unitRuns = true := by
      rcases List.mem_pair.mp hs with hs | hs <;> rw [hs] <;> rfl
    rw [exec_bomRise_rewinding h hm, if_pos ⟨hu, runs, hw⟩]
  · rw [exec_bomRise_reverse h hd hm, bomMet_ends (by simpa using hs) (by simpa using hw)]

/-- A tape in STOPPING goes on stopping as the list ends. -/
theorem listEnd_stopping (hm : s.xp.motion = .stopping) :
    (s.listEnd c).xp.motion = .stopping ∧ (s.listEnd c).xp.dir = s.xp.dir ∧
      (s.listEnd c).xp.fast = s.xp.fast ∧ (s.listEnd c).xp.levels = s.xp.levels := by
  have ramps : s.xp.ramping = true := by rw [Transport.ramping, hm]
  rw [listEnd_eq, if_pos ramps, State.requestStop]
  split
  · simp [State.defer, State.setDeferred, hm]
  · simp [State.takeStop, State.hold, State.setUnloadInd, hm]

/-- How BOM's outcome ends the list: which cause it gives (R64, R71). -/
theorem bomStopped_goOn (h : (c = .completed ∧ ((o = .done ∧ s.lastEntry) ∨ (o = .bomMet ∧
      (s.entry.haltOnShort = true ∨ (s.lastEntry ∧ s.seq.stopInd = false))))) ∨
    (c = .stopped ∧ s.seq.stopInd = true ∧ ((o = .done ∧ s.entryFollows) ∨
      (o = .bomMet ∧ s.entry.haltOnShort = false)))) (hv : s.OnList v) :
    v.goOn o = (v.listEnd c, false) := by
  have last : s.lastEntry → v.lastEntry := fun l => by
    simpa only [State.lastEntry, hv.cur, hv.ctl] using l
  rw [← hv.entry, ← hv.stopInd] at h
  rcases h with ⟨rfl, ⟨rfl, l⟩ | ⟨rfl, hh | ⟨l, hi⟩⟩⟩ | ⟨rfl, hi, ⟨rfl, follows⟩ | ⟨rfl, hh⟩⟩
  · exact (EndsList.lastDone (last l)).goOn
  · exact (EndsList.short (by decide) hh).goOn
  · exact (EndsList.last (by decide) (by decide) (last l) hi).goOn
  · exact goOn_stopped (by decide) (by decide) rfl hi (hv.entryFollows follows)
  · exact (EndsList.stopInd (by decide) hh hi).goOn

theorem bomStopped_onList (s : State) : s.OnList s.bomStopped where
  cur := by simp
  ctl := by simp
  cycle := by simp
  stopInd := by simp
  endCause := by simp
  listMem := by simp
  listEnded := event_eq_of_host (by simp) _
  pending := by simp

theorem bomStopped_closed (o : EntryOutcome) (s : State) :
    s.OnList (s.bomStopped.entryClosed o) :=
  (bomStopped_onList s).trans (OnList.entryClosed o _)

/-- From `s`, BOM has ended the entry in `t`, which goes on to a forward SPACE or SEEK entry, its request
held. -/
structure BomWentOn (s : State) (o : EntryOutcome) (w : Work) (t : State) : Prop where
  results : t.host.results = s.host.results ++ [s.bomStopped.buildResult o]
  flag : t.event .resultPosted = true
  wentOn : s.wentOn t w
  pos : t.pos = s.bomStopped.pos
  motion : t.xp.motion = .stopping
  held : t.xp.held = some (.dir .forward)
  pool : t.pool = s.pool
  stream : t.stream = s.stream
  capture : t.capture = s.capture

theorem bomStopped_wentOn (hr : s.host.results.length < 16) (ht : o.terminal = false)
    (ho : o ≠ .stopped) (hh : (o.short && s.entry.haltOnShort) = false)
    (hi : s.seq.stopInd = false) (hf : s.passFollows w) (he : s.xp.levels.eom = false) :
    BomWentOn s o w (s.bomStopped.endEntry o) := by
  have list := bomStopped_closed o s
  let v := s.bomStopped.entryClosed o
  have asked := requestDir_held (s := v.followed.passUnit w) (by simpa [v, followed] using he)
    (by simp [v, followed])
  have goes := nextEntry_pass ht ho (by rw [list.entry]; exact hh) (by rw [list.stopInd]; exact hi)
    (list.passFollows hf) (by simp) (by simpa using he) asked
  have ends : s.bomStopped.endEntry o = (v.followed.passUnit w).hold (some (.dir .forward)) := by
    rw [State.endEntry, settleEntry_room o (by simpa using hr), goes]
  have host : ((v.followed.passUnit w).hold (some (.dir .forward))).host = v.host := by
    simp [followed]
  rw [ends]
  constructor
  case results => rw [host, entryClosed_results, bomStopped_host]
  case flag => rw [event_eq_of_host (s := v) (by rw [host]), entryClosed_event]; simp
  case wentOn => exact OnList.wentOn (v := v) list (hold_seq _ _) host (by simp [followed, v])
  case motion => simp [followed, v, State.hold]
  case held => rfl
  all_goals simp [followed, v]

end State

open State in
/-- Settles O50: what BOM reached does to the tape in each motion state, and to the entry that it ends. -/
theorem bomRiseIsBomReached : Obligations.BomRiseIsBomReached := by
  refine ⟨?ends, ?plain, ?unloading, ?level⟩
  case ends =>
    intro s o h hb hs hr
    have rises := exec_bomRise_ends h hb hs
    refine ⟨fun c hc => ?_, fun w ho hi hf he => ?_⟩
    · have closes := endEntry_ends (u := s.bomStopped) (by simpa using hr)
        (bomStopped_goOn hc (bomStopped_closed o s))
      have finish := entryOver_of_listEnd closes
      obtain ⟨motion, dir, fast, levels⟩ := listEnd_stopping (c := c)
        (s := s.bomStopped.entryClosed o) (by simp)
      rw [← closes] at motion dir fast levels
      refine ⟨_, _, rises, finish.list (by simp) (by simp) (by simp), by simp [State.buildResult],
        by simp [State.buildResult], by simp [State.buildResult], by simp [State.buildResult],
        by rw [finish.pos, bomStopped_pos], motion, by rw [dir]; simp, fun done => ?_,
        by rw [levels]; simp, by rw [finish.pool]; simp, by rw [finish.stream]; simp,
        by rw [finish.capture]; simp⟩
      rcases hb with ⟨hm, -⟩ | ⟨-, -, -, met⟩
      · rw [fast, entryClosed_xp]
        exact (bomStopped_rewound hm).1
      · rw [met] at done
        cases done
    · have outcome : o.terminal = false ∧ o ≠ .stopped ∧ (o.short && s.entry.haltOnShort) = false := by
        refine outcome_goesOn ?_
        rcases hb with ⟨-, -, -, done⟩ | ⟨-, -, -, rfl⟩
        · exact .inl done
        · exact .inr ⟨by decide, ho.resolve_left nofun⟩
      obtain ⟨terminal, stopped, short⟩ := outcome
      have on := bomStopped_wentOn hr terminal stopped short hi hf he
      exact ⟨_, _, rises, ⟨on.results, rfl, by simp [State.buildResult], by simp [State.buildResult],
        on.flag, on.wentOn⟩, by simp [State.buildResult], by simp [State.buildResult],
        by simp [State.buildResult], by rw [on.pos, bomStopped_pos], on.motion, on.held, on.pool,
        on.stream, on.capture⟩
  case plain =>
    intro s h hm
    have rises : exec .bomRise s = .next s.bomStopped := by
      rcases hm with ⟨hm, hu⟩ | ⟨hm, hd, hn⟩
      · rw [exec_bomRise_rewinding h hm, if_neg (by simp [hu])]
      · rw [exec_bomRise_reverse h hd hm, bomMet_same (by simpa using hn)]
    exact ⟨_, rises, bomStopped_pos s, bomStopped_motion s, bomStopped_dir s,
      fun k => ⟨(bomStopped_rewound k).1, (bomStopped_rewound k).2.1⟩,
      fun k => (bomStopped_ramps k).1, fun k => bomStopped_ramping k, bomStopped_unloadInd s,
      bomStopped_held s, bomStopped_levels s, bomStopped_seq s, bomStopped_host s,
      bomStopped_pool s, bomStopped_stream s, bomStopped_capture s, bomStopped_pending s⟩
  case unloading =>
    intro s h hm
    rw [exec_bomRise_unloading h hm]
    by_cases hz : s.pos.zone = .unknown
    · simp only [if_pos hz]
      rfl
    · simp only [if_neg hz]
      rfl
  case level => exact fun s h hm => exec_bomRise_level h hm

end Sys2Proof.Machine
end

section
/-! SUPPORT. START and the entry with which a list begins (R47 to R54, R56, R57, R59, R153). -/

namespace Sys2Proof.Machine

/-! ## REWIND and UNLOAD entries (R54) -/

theorem ListEntry.long_iff (e : ListEntry) :
    e.long = true ↔ e.opcode ∈ ([0x09, 0x0A] : List Byte) := by
  rcases opOf_cases mainOps e.opcode with ⟨h, hn⟩ | ⟨o, ho, h, hc⟩
  · rw [ListEntry.long, ListEntry.mainOp, h]
    refine iff_of_false nofun fun k => hn ?_
    revert k
    generalize e.opcode = c
    revert c
    decide
  · rw [ListEntry.long, ListEntry.mainOp, h, ← hc]
    cases o <;> decide

/-- The motion states that end by a ramp, and RUNNING. -/
theorem Transport.ramping_iff (x : Transport) :
    x.ramping = true ↔ x.motion ∈ [.starting, .running, .stopping] := by
  cases h : x.motion <;> simp [Transport.ramping, h]

namespace State

variable {s t u v : State} {o : EntryOutcome} {c : EndCause} {w : Work} {d : Dir} {p : Pool}

/-! ## The checks of an entry (R59) -/

theorem entryCheck_eq (s : State) : s.entryCheck =
    if s.xp.motion = .noCartridge ∨ s.xp.motion = .notReady then some .notReady
    else if s.xp.motion = .fault ∧ s.entry.long = false then some .transportFault
    else if s.xp.motion = .fault ∧ s.xp.levels.ready = false then some .notReady
    else if s.unitCheck.isSome then s.unitCheck
    else if s.entry.stopAtEw && s.pos.zone == .pastEw then some .ewMet else none := by
  unfold State.entryCheck
  cases s.xp.motion <;> simp

theorem unitCheck_of_entryCheck (h : s.entryCheck = none) : s.unitCheck = none := by
  rw [entryCheck_eq] at h
  cases hc : s.unitCheck with
  | none => rfl
  | some o =>
    simp only [hc, Option.isSome_some, if_true] at h
    split_ifs at h

/-- An entry with a fresh record, before its checks. -/
def freshEntry (s : State) : State := (s.setSeqState .running).record fun _ => .clear

theorem startEntry_begins (h : s.entryCheck = none) : s.startEntry = s.freshEntry.beginUnit := by
  have check : ((s.setSeqState .running).record fun _ => .clear).entryCheck = none := h
  simp only [State.startEntry, check]
  rfl

theorem startEntry_fails (h : s.entryCheck = some o) : s.startEntry = (s.freshEntry, some o) := by
  have check : ((s.setSeqState .running).record fun _ => .clear).entryCheck = some o := h
  simp only [State.startEntry, check]
  rfl

/-- An entry that ends as it begins, and its list with it. -/
theorem runEntries_ends (k : Nat) (h : s.startEntry = (v, some o))
    (hr : v.host.results.length < 16) (hv : EndsList v o c) :
    s.runEntries (k + 1) = v.endEntry o := by
  have closed : EndsList (v.entryClosed o) o c := hv.congr (by simp) (by simp) (by simp) (by simp)
  rw [endEntry_listEnd hr hv]
  simp only [State.runEntries, h, settleEntry_room o hr, closed.goOn]

/-! ## The first unit by the entry's operation (R48 to R54) -/

/-- The unit of an operation other than a SPACE or a SEEK. -/
def firstUnit : Op → State → Turn
  | .write, s => s.beginWrite
  | .mark, s => s.beginMark
  | .read, s => s.beginRead
  | .erase, s => s.beginErase
  | .rewind, s => s.beginRewind
  | .unload, s => s.beginUnload
  | _, s => s.beginUnit

theorem startEntry_unit {x : Op} (h : s.entryCheck = none) (hx : x ∈ mainOps)
    (hc : s.entry.opcode = x.code) (hp : x ∈ [.write, .mark, .read, .erase, .rewind, .unload]) :
    s.startEntry = firstUnit x s.freshEntry := by
  have op : s.entry.mainOp = some x := mainOp_of_code hx hc
  have entry : (s.freshEntry.setSeqState .running).entry.mainOp = some x := op
  have check : (s.freshEntry.setSeqState .running).unitCheck = none := unitCheck_of_entryCheck h
  have same : s.freshEntry.setSeqState .running = s.freshEntry := rfl
  rw [startEntry_begins h]
  simp only [List.mem_cons, List.not_mem_nil, or_false] at hp
  rcases hp with rfl | rfl | rfl | rfl | rfl | rfl <;>
    simp only [State.beginUnit, check, entry, firstUnit] <;>
    rw [same]

/-! ## Motion from STOPPED (R153, R154, R160, R161) -/

theorem startMotion_xp (d : Dir) (s : State) : (s.startMotion d).xp = { s.xp with
    motion := .starting, dir := d, fast := false, held := none, keptIdle := false
    rampTimer := some s.xp.timing.startRamp, lingerTimer := none, rewindTimer := none
    blankTimer := none } := by
  cases d <;> simp [State.startMotion, enterMotion_xp, State.forgetTags]

theorem startMotion_wch (d : Dir) (s : State) :
    (s.startMotion d).wch = { s.wch with wgate := false, egate := false, run := false } := by
  cases d <;> simp [State.startMotion, State.enterMotion, State.dropGates, State.forgetTags]

theorem startMotion_tagMem (h : s.rch.tagMem = none) : (s.startMotion d).rch.tagMem = none := by
  cases d
  · simpa [State.startMotion, State.enterMotion, State.dropGates] using h
  · rfl

/-- A request of a tape in STOPPED, with no marker in the way, starts it. -/
theorem requestDir_stopped (hm : s.xp.motion = .stopped)
    (hf : d = .forward → s.xp.levels.eom = false) (hr : d = .reverse → s.xp.levels.bom = false) :
    s.requestDir d = (s.startMotion d, .taken) := by
  cases d
  · simp [State.requestDir, State.takeDir, hm, hf rfl]
  · simp [State.requestDir, State.takeDir, hm, hr rfl]

theorem startRewind_xp (s : State) : s.startRewind.xp = { s.xp with
    motion := .rewinding, dir := .reverse, fast := false, held := none, keptIdle := false
    rampTimer := none, lingerTimer := none, rewindTimer := some s.xp.timing.rewindLimit
    blankTimer := none } := by
  simp [State.startRewind, enterMotion_xp, State.forgetTags, State.clearStraddle]

theorem startRewind_wch (s : State) :
    s.startRewind.wch = { s.wch with wgate := false, egate := false, run := false } := by
  simp [State.startRewind, State.enterMotion, State.dropGates, State.forgetTags,
    State.clearStraddle]

theorem beginEject_xp (s : State) : s.beginEject.xp = { s.xp with
    motion := .unloading, fast := false, unloadInd := false, keptIdle := false
    rampTimer := none, lingerTimer := none, rewindTimer := some s.xp.timing.rewindLimit
    blankTimer := none } := by
  simp [State.beginEject, enterMotion_xp, State.forgetTags, State.clearStraddle]

theorem beginEject_wch (s : State) :
    s.beginEject.wch = { s.wch with wgate := false, egate := false, run := false } := by
  simp [State.beginEject, State.enterMotion, State.dropGates, State.forgetTags,
    State.clearStraddle]

/-! ## The list begins (R56, R57) -/

/-- The list has begun at M0, whose entry has not begun yet. -/
def listBegun (s : State) : State := { s with
  host := s.host.answered .accepted
  seq := { s.seq with endCause := .none, cycle := 0, cur := 0, stopInd := false, state := .running }
  rch := { s.rch with tagMem := none } }

theorem exec_start (hi : s.seq.state = .idle) (hb : s.seq.firstBad = none) :
    exec .start s = .next (s.listBegun.runEntries 17) := by
  have idle : ¬ s.touch.seq.state ≠ .idle := fun k => k hi
  have good : s.touch.seq.firstBad = none := hb
  show execStart s = _
  simp only [execStart, State.startList, if_neg idle, good]
  rfl

theorem listBegun_opcode (s : State) : s.listBegun.entry.opcode = s.seq.listMem.read 0 := rfl

/-- From `s`, START has begun the list in `t`, whose first unit has the work `w`. -/
structure Started (s : State) (w : Work) (t : State) : Prop where
  host : t.host = s.host.answered .accepted
  seq : t.seq = { s.seq with
    state := .running, stopInd := false, cur := 0, record := .clear, work := w, cycle := 0
    endCause := .none }
  tagMem : t.rch.tagMem = none
  levels : t.xp.levels = s.xp.levels
  timing : t.xp.timing = s.xp.timing
  stream : t.stream = s.stream
  capture : t.capture = s.capture
  pending : t.pending = s.pending
  wgate : s.wch.wgate = false → t.wch.wgate = false
  egate : s.wch.egate = false → t.wch.egate = false

namespace Started

theorem fresh (s : State) : Started s s.seq.work s.listBegun.freshEntry :=
  ⟨rfl, rfl, rfl, rfl, rfl, rfl, rfl, rfl, id, id⟩

theorem setPool (h : Started s w t) (p : Pool) : Started s w (t.setPool p) := { h with }
theorem dropTarget (h : Started s w t) : Started s w t.dropTarget := { h with }
theorem takeFramePeriod (h : Started s w t) : Started s w t.takeFramePeriod := { h with }
theorem onPos (h : Started s w t) (f : Position → Position) : Started s w (t.onPos f) := { h with }
theorem setUnloadInd (h : Started s w t) (b : Bool) : Started s w (t.setUnloadInd b) := { h with }
theorem keptIdle (h : Started s w t) (b : Bool) :
    Started s w (t.setXp { t.xp with keptIdle := b }) := { h with }

theorem setWork {x : Work} (h : Started s x t) (w : Work) : Started s w (t.setWork w) where
  host := (setWork_host w t).trans h.host
  seq := by rw [setWork_seq, h.seq]
  tagMem := by rw [setWork_rch]; exact h.tagMem
  levels := (setWork_levels w t).trans h.levels
  timing := by
    obtain ⟨b, xp⟩ := setWork_xp w t
    rw [xp]
    exact h.timing
  stream := (setWork_stream w t).trans h.stream
  capture := (setWork_capture w t).trans h.capture
  pending := (setWork_pending w t).trans h.pending
  wgate k := by rw [setWork_wch]; exact h.wgate k
  egate k := by rw [setWork_wch]; exact h.egate k

theorem startMotion (h : Started s w t) (d : Dir) : Started s w (t.startMotion d) where
  host := (t.startMotion_host d).trans h.host
  seq := (t.startMotion_seq d).trans h.seq
  tagMem := startMotion_tagMem h.tagMem
  levels := by rw [startMotion_xp]; exact h.levels
  timing := by rw [startMotion_xp]; exact h.timing
  stream := (t.startMotion_stream d).trans h.stream
  capture := (t.startMotion_capture d).trans h.capture
  pending := (t.startMotion_pending d).trans h.pending
  wgate _ := by rw [startMotion_wch]
  egate _ := by rw [startMotion_wch]

theorem holdWork (h : Started s w t) (k : WHeld) :
    Started s w (t.channelIdle.holdWork k) := { h with wgate := fun _ => rfl, egate := fun _ => rfl }

theorem startRewind (h : Started s w t) : Started s w t.startRewind where
  host := t.startRewind_host.trans h.host
  seq := t.startRewind_seq.trans h.seq
  tagMem := rfl
  levels := by rw [startRewind_xp]; exact h.levels
  timing := by rw [startRewind_xp]; exact h.timing
  stream := t.startRewind_stream.trans h.stream
  capture := t.startRewind_capture.trans h.capture
  pending := t.startRewind_pending.trans h.pending
  wgate _ := by rw [startRewind_wch]
  egate _ := by rw [startRewind_wch]

theorem beginEject (h : Started s w t) : Started s w t.beginEject where
  host := t.beginEject_host.trans h.host
  seq := t.beginEject_seq.trans h.seq
  tagMem := rfl
  levels := by rw [beginEject_xp]; exact h.levels
  timing := by rw [beginEject_xp]; exact h.timing
  stream := t.beginEject_stream.trans h.stream
  capture := t.beginEject_capture.trans h.capture
  pending := t.beginEject_pending.trans h.pending
  wgate _ := by rw [beginEject_wch]
  egate _ := by rw [beginEject_wch]

end Started

/-- From `s`, START has begun the list in `t` with a unit for which the tape starts forward. -/
structure StartsForward (s : State) (w : Work) (p : Pool) (t : State) : Prop
    extends Started s w t where
  pool : t.pool = p
  pos : t.pos = s.pos
  motion : t.xp.motion = .starting
  dir : t.xp.dir = .forward
  keptIdle : t.xp.keptIdle = false

theorem Started.forward (h : Started s w v) (hp : v.pool = p) (hx : v.pos = s.pos) :
    StartsForward s w p (v.startMotion .forward) :=
  { h.startMotion .forward with
    pool := (v.startMotion_pool .forward).trans hp
    pos := (v.startMotion_pos .forward).trans hx
    motion := by rw [startMotion_xp]
    dir := by rw [startMotion_xp]
    keptIdle := by rw [startMotion_xp] }

theorem StartsForward.hold (h : StartsForward s w p t) (k : WHeld) :
    StartsForward s w p (t.channelIdle.holdWork k) :=
  { h.toStarted.holdWork k with
    pool := h.pool, pos := h.pos, motion := h.motion, dir := h.dir, keptIdle := h.keptIdle }

/-- From `s`, START has begun the list in `t` with a unit for which the tape rewinds. -/
structure Rewinds (s : State) (w : Work) (t : State) : Prop extends Started s w t where
  pool : t.pool = s.pool
  pos : t.pos = { s.pos with zone := .unknown, file := none, block := none }
  motion : t.xp.motion = .rewinding
  timer : t.xp.rewindTimer = some s.xp.timing.rewindLimit

theorem startRewind_pos (s : State) : s.startRewind.pos = s.pos.lost := by
  simp [State.startRewind, State.forgetTags, State.clearStraddle]

theorem Started.rewinds (h : Started s w v) (hp : v.pool = s.pool) (hx : v.pos = s.pos) :
    Rewinds s w v.startRewind :=
  { h.startRewind with
    pool := v.startRewind_pool.trans hp
    pos := by
      rw [startRewind_pos, hx]
      rfl
    motion := by rw [startRewind_xp]
    timer := by rw [startRewind_xp, h.timing] }

/-! ## The first unit of the list (R48 to R50, R53, R54) -/

/-- The list's first entry passes its checks, and the write channel is IDLE. -/
structure FirstPasses (s : State) : Prop where
  check : s.listBegun.entryCheck = none
  phase : s.wch.phase = .idle

theorem list_runs {x : Op} (h : s.FirstPasses) (hx : x ∈ mainOps)
    (hc : s.seq.listMem.read 0 = x.code)
    (hp : x ∈ [.write, .mark, .read, .erase, .rewind, .unload])
    (hb : firstUnit x s.listBegun.freshEntry = (t, none)) : s.listBegun.runEntries 17 = t :=
  runEntries_begun 16 ((startEntry_unit h.check hx hc hp).trans hb)

/-- At rest the idle report changes nothing. -/
theorem idleReport_stopped (hp : s.wch.phase = .idle) (hm : s.xp.motion = .stopped) :
    s.idleReport = s := by
  simp only [State.idleReport, hp, reduceCtorEq, if_false, State.takeIdle, hm]

/-- In STARTING the idle report is kept. -/
theorem idleReport_starting (hp : s.wch.phase = .idle) (hm : s.xp.motion = .starting) :
    s.idleReport = s.setXp { s.xp with keptIdle := true } := by
  simp only [State.idleReport, hp, reduceCtorEq, if_false, State.takeIdle, hm]

/-- A tape that starts is not RUNNING forward yet. -/
theorem startMotion_waits (d : Dir) (s : State) :
    (s.startMotion d).xp.runningForward = false := by
  rw [startMotion_xp]
  rfl

theorem beginWriteUnit_stopped (x : WUnit) (hp : s.wch.phase = .idle)
    (hm : s.xp.motion = .stopped) (he : s.xp.levels.eom = false) : s.beginWriteUnit x =
      (((s.takeFramePeriod).startMotion .forward).channelIdle.holdWork
        (.write { x with framePeriod := s.xp.timing.frameDiv }), .taken) := by
  have asked := requestDir_stopped (s := s.takeFramePeriod) (d := .forward) hm (fun _ => he) nofun
  have phase : ((s.takeFramePeriod).startMotion .forward).wch.phase = .idle := by
    rw [startMotion_wch]
    exact hp
  have timing : ((s.takeFramePeriod).startMotion .forward).xp.timing = s.xp.timing := by
    rw [startMotion_xp]
    rfl
  simp only [State.beginWriteUnit, asked, State.placeUnit, phase, State.gapOrWait,
    startMotion_waits, Bool.false_eq_true, if_false, timing]

theorem beginEraseUnit_stopped (hp : s.wch.phase = .idle) (hm : s.xp.motion = .stopped)
    (he : s.xp.levels.eom = false) : s.beginEraseUnit =
      (((s.takeFramePeriod).startMotion .forward).channelIdle.holdWork .erase, .taken) := by
  have asked := requestDir_stopped (s := s.takeFramePeriod) (d := .forward) hm (fun _ => he) nofun
  have phase : ((s.takeFramePeriod).startMotion .forward).wch.phase = .idle := by
    rw [startMotion_wch]
    exact hp
  simp only [State.beginEraseUnit, asked, State.placeErase, phase, State.eraseOrWait,
    startMotion_waits, Bool.false_eq_true, if_false]

/-- A WRITE waits for the head of the write queue. -/
theorem start_waitHead (h : s.FirstPasses) (hc : s.seq.listMem.read 0 = 0x01)
    (hm : s.xp.motion = .stopped) (hq : s.pool.writeQ = []) :
    s.listBegun.runEntries 17 = s.listBegun.freshEntry.setWork .waitHead := by
  refine list_runs h (x := .write) (by decide) hc (by decide) ?_
  have queue : s.listBegun.freshEntry.pool.writeQ = [] := hq
  simp only [firstUnit, State.beginWrite, queue]
  rw [idleReport_stopped (by rw [setWork_wch]; exact h.phase) (by rw [setWork_motion]; exact hm)]

/-- A WRITE takes the head of the write queue, and its unit waits at the channel. -/
theorem start_writeSlot {n : SlotNo} {l : List SlotNo} (h : s.FirstPasses)
    (hc : s.seq.listMem.read 0 = 0x01) (hm : s.xp.motion = .stopped)
    (he : s.xp.levels.eom = false) (hq : s.pool.writeQ = n :: l) :
    StartsForward s (.writeSlot n)
        { s.pool.put n { s.slot n with state := .active, rewritten := false } with writeQ := l }
        (s.listBegun.runEntries 17) ∧
      ∃ u, (s.listBegun.runEntries 17).wch.held = some (.write u) ∧ u.target = .slot n ∧
        u.tag = (s.slot n).tag ∧ u.reattempt = false ∧
        u.verify = (s.seq.listMem.read 2).getLsbD 0 := by
  generalize hp : ({ s.pool.put n { s.slot n with state := .active, rewritten := false } with
    writeQ := l } : Pool) = p
  have queue : s.listBegun.freshEntry.pool.writeQ = n :: l := hq
  have head : s.listBegun.freshEntry.pool.takeHead = p := by
    rw [← hp, Pool.takeHead, queue]
    rfl
  let b := (s.listBegun.freshEntry.setPool p).setWork (.writeSlot n)
  have pool : b.pool = p := setWork_pool _ _
  have begins := beginWriteUnit_stopped (s := b) (b.slotUnit n false)
    (by rw [setWork_wch]; exact h.phase) (by rw [setWork_motion]; exact hm)
    (by rw [setWork_levels]; exact he)
  have unit : firstUnit .write s.listBegun.freshEntry =
      State.afterRequest (b.beginWriteUnit (b.slotUnit n false)).2
        (b.beginWriteUnit (b.slotUnit n false)).1 := by
    simp only [firstUnit, State.beginWrite, queue, head]
    rfl
  rw [begins] at unit
  have tag : (b.slot n).tag = (s.slot n).tag := by
    rw [State.slot, pool, ← hp]
    show ((s.pool.put n _).get n).tag = _
    rw [Pool.get_put, if_pos rfl]
  have begun := ((Started.fresh s).setPool p).setWork (.writeSlot n)
  rw [list_runs h (x := .write) (by decide) hc (by decide) unit]
  exact ⟨(begun.takeFramePeriod.forward pool (setWork_pos _ _)).hold _, _, rfl, rfl, tag, rfl,
    congrArg ListEntry.verify (setWork_entry _ _)⟩

/-- A MARK waits at the channel for RUNNING forward. -/
theorem start_mark (h : s.FirstPasses) (hc : s.seq.listMem.read 0 = 0x02)
    (hm : s.xp.motion = .stopped) (he : s.xp.levels.eom = false) :
    StartsForward s .writeMark s.pool (s.listBegun.runEntries 17) ∧
      ∃ u, (s.listBegun.runEntries 17).wch.held = some (.write u) ∧ u.target = .markUnit ∧
        u.kind = .mark ∧ u.tag = none ∧ u.reattempt = false ∧
        u.verify = (s.seq.listMem.read 2).getLsbD 0 := by
  let b := s.listBegun.freshEntry.setWork .writeMark
  have begins := beginWriteUnit_stopped (s := b) (b.markUnit none false)
    (by rw [setWork_wch]; exact h.phase) (by rw [setWork_motion]; exact hm)
    (by rw [setWork_levels]; exact he)
  have unit : firstUnit .mark s.listBegun.freshEntry =
      State.afterRequest (b.beginWriteUnit (b.markUnit none false)).2
        (b.beginWriteUnit (b.markUnit none false)).1 := rfl
  rw [begins] at unit
  have begun := (Started.fresh s).setWork .writeMark
  rw [list_runs h (x := .mark) (by decide) hc (by decide) unit]
  exact ⟨(begun.takeFramePeriod.forward (setWork_pool _ _) (setWork_pos _ _)).hold _, _, rfl, rfl,
    rfl, rfl, rfl, congrArg ListEntry.verify (setWork_entry _ _)⟩

/-- An ERASE waits at the channel for RUNNING forward. -/
theorem start_erase (h : s.FirstPasses) (hc : s.seq.listMem.read 0 = 0x08)
    (hm : s.xp.motion = .stopped) (he : s.xp.levels.eom = false) :
    StartsForward s .erase s.pool (s.listBegun.runEntries 17) ∧
      (s.listBegun.runEntries 17).wch.held = some .erase := by
  let b := s.listBegun.freshEntry.setWork .erase
  have begins := beginEraseUnit_stopped (s := b)
    (by rw [setWork_wch]; exact h.phase) (by rw [setWork_motion]; exact hm)
    (by rw [setWork_levels]; exact he)
  have unit : firstUnit .erase s.listBegun.freshEntry =
      State.afterRequest b.beginEraseUnit.2 b.beginEraseUnit.1 := rfl
  rw [begins] at unit
  have begun := (Started.fresh s).setWork .erase
  rw [list_runs h (x := .erase) (by decide) hc (by decide) unit]
  exact ⟨(begun.takeFramePeriod.forward (setWork_pool _ _) (setWork_pos _ _)).hold _, rfl⟩

/-- A READ takes the lowest-numbered FREE slot, and the tape starts. -/
theorem start_read {n : SlotNo} (h : s.FirstPasses) (hc : s.seq.listMem.read 0 = 0x03)
    (hm : s.xp.motion = .stopped) (he : s.xp.levels.eom = false)
    (hk : s.pool.lowestFree = some n) :
    StartsForward s (.read n) (s.pool.put n .claimed) (s.listBegun.runEntries 17) := by
  have found : s.listBegun.freshEntry.pool.lowestFree = some n := hk
  have granted : s.listBegun.freshEntry.pool.grantRead n = s.pool.put n .claimed :=
    Pool.grantRead_eq (Pool.lowestFree_state hk)
  let b := ((s.listBegun.freshEntry.setPool
    (s.pool.put n .claimed)).dropTarget.takeFramePeriod).setWork (.read n)
  have asked := requestDir_stopped (d := .forward) (s := b)
    (by rw [setWork_motion]; exact hm) (fun _ => by rw [setWork_levels]; exact he) nofun
  have unit : firstUnit .read s.listBegun.freshEntry =
      State.afterRequest (b.requestDir .forward).2 (b.requestDir .forward).1 := by
    simp only [firstUnit, State.beginRead, found, State.grantClaim, granted, State.readGoesOn]
    rfl
  rw [asked] at unit
  have claimed := (Started.fresh s).setPool (s.pool.put n .claimed)
  have begun := claimed.dropTarget.takeFramePeriod.setWork (.read n)
  rw [list_runs h (x := .read) (by decide) hc (by decide) unit]
  exact begun.forward (setWork_pool _ _) (setWork_pos _ _)

/-- A READ without a slot waits for one, the tape started and the idle report kept. -/
theorem start_waitSlot (h : s.FirstPasses) (hc : s.seq.listMem.read 0 = 0x03)
    (hm : s.xp.motion = .stopped) (he : s.xp.levels.eom = false)
    (hk : s.pool.lowestFree = none) :
    ∃ v, StartsForward s .waitSlot s.pool v ∧
      s.listBegun.runEntries 17 = v.setXp { v.xp with keptIdle := true } := by
  have none : s.listBegun.freshEntry.pool.lowestFree = none := hk
  have asked := requestDir_stopped (d := .forward)
    (s := (s.listBegun.freshEntry.takeFramePeriod).setWork .waitSlot)
    (by rw [setWork_motion]; exact hm) (fun _ => by rw [setWork_levels]; exact he) nofun
  have begun := ((Started.fresh s).takeFramePeriod).setWork .waitSlot
  refine ⟨_, begun.forward (setWork_pool _ _) (setWork_pos _ _),
    list_runs h (x := .read) (by decide) hc (by decide) ?_⟩
  simp only [firstUnit, State.beginRead, none, State.awaitClaim]
  rw [asked]
  dsimp only
  rw [idleReport_starting (by rw [startMotion_wch, setWork_wch]; exact h.phase)
    (by rw [startMotion_xp])]

/-- The transport is at rest for a REWIND or an UNLOAD (R160, R161). -/
def LongAtRest (s : State) : Prop :=
  s.xp.motion = .stopped ∨ (s.xp.motion = .fault ∧ s.xp.levels.ready = true)

theorem requestLong_atRest (r : HeldRequest) (q : Deferred) (go : State → State × Reply)
    (h : s.LongAtRest) : s.requestLong r q go = go s := by
  rcases h with h | ⟨h, ready⟩
  · simp only [State.requestLong, h]
  · simp only [State.requestLong, h, ready, if_true]

theorem LongAtRest.begun (h : s.LongAtRest) (w : Work) :
    (s.listBegun.freshEntry.setWork w).LongAtRest := by
  rw [LongAtRest, setWork_motion, setWork_levels]
  exact h

/-- A REWIND rewinds from rest where BOM is absent. -/
theorem start_rewind (h : s.FirstPasses) (hc : s.seq.listMem.read 0 = 0x09) (hm : s.LongAtRest)
    (hb : s.xp.levels.bom = false) : Rewinds s .rewind (s.listBegun.runEntries 17) := by
  have absent : s.listBegun.freshEntry.xp.levels.bom = false := hb
  have level : (s.listBegun.freshEntry.setWork .rewind).xp.levels.bom = false := by
    rw [setWork_levels]
    exact hb
  have unit : firstUnit .rewind s.listBegun.freshEntry =
      ((s.listBegun.freshEntry.setWork .rewind).startRewind, none) := by
    simp only [firstUnit, State.beginRewind, absent, Bool.false_eq_true, if_false,
      State.requestRewind]
    rw [requestLong_atRest _ _ _ (hm.begun _)]
    simp only [State.rewindAtRest, level, Bool.false_eq_true, if_false, State.afterRequest]
  rw [list_runs h (x := .rewind) (by decide) hc (by decide) unit]
  exact ((Started.fresh s).setWork .rewind).rewinds (setWork_pool _ _) (setWork_pos _ _)

/-- An UNLOAD takes up its work at rest. -/
def unloadBegun (s : State) : State :=
  (s.listBegun.freshEntry.setWork .unload).setUnloadInd true

/-- An UNLOAD rewinds from rest, or ejects at once where BOM is present. -/
theorem start_unload (h : s.FirstPasses) (hc : s.seq.listMem.read 0 = 0x0A) (hm : s.LongAtRest) :
    s.listBegun.runEntries 17 = if s.xp.levels.bom = true
      then (s.unloadBegun.onPos .bomReached).beginEject else s.unloadBegun.startRewind := by
  have level : ((s.listBegun.freshEntry.setWork .unload).setUnloadInd true).xp.levels.bom =
      s.xp.levels.bom := by
    rw [setUnloadInd_xp_levels, setWork_levels]
    rfl
  refine list_runs h (x := .unload) (by decide) hc (by decide) ?_
  simp only [firstUnit, State.beginUnload, State.requestUnload]
  rw [requestLong_atRest _ _ _ (hm.begun _)]
  simp only [State.unloadAtRest, level]
  split <;> rfl

theorem unloadBegun_started (s : State) : Started s .unload s.unloadBegun :=
  ((Started.fresh s).setWork .unload).setUnloadInd true

theorem start_unload_rewinds (h : s.FirstPasses) (hc : s.seq.listMem.read 0 = 0x0A)
    (hm : s.LongAtRest) (hb : s.xp.levels.bom = false) :
    Rewinds s .unload (s.listBegun.runEntries 17) ∧
      (s.listBegun.runEntries 17).xp.unloadInd = true := by
  rw [start_unload h hc hm, if_neg (by rw [hb]; nofun)]
  exact ⟨(unloadBegun_started s).rewinds (setWork_pool _ _) (setWork_pos _ _),
    by rw [startRewind_xp]; rfl⟩

theorem start_unload_ejects (h : s.FirstPasses) (hc : s.seq.listMem.read 0 = 0x0A)
    (hm : s.LongAtRest) (hb : s.xp.levels.bom = true) :
    Started s .unload (s.listBegun.runEntries 17) ∧
      (s.listBegun.runEntries 17).pool = s.pool ∧
      (s.listBegun.runEntries 17).xp.motion = .unloading ∧
      (s.listBegun.runEntries 17).pos =
        { s.pos with zone := .atBom, file := some 0, block := some 0 } := by
  have pos : s.unloadBegun.pos = s.pos := setWork_pos _ _
  rw [start_unload h hc hm, if_pos hb]
  refine ⟨((unloadBegun_started s).onPos _).beginEject,
    (beginEject_pool _).trans (setWork_pool _ _), by rw [beginEject_xp], ?_⟩
  rw [beginEject_pos, onPos_pos, pos]
  rfl

/-- Whatever the first unit is, START has begun the list in the same way (R57). -/
theorem start_started (h : s.FirstPasses)
    (hc : s.seq.listMem.read 0 ∈ ([0x01, 0x02, 0x03, 0x08, 0x09, 0x0A] : List Byte))
    (hm : s.xp.motion = .stopped ∨
      (s.LongAtRest ∧ s.seq.listMem.read 0 ∈ ([0x09, 0x0A] : List Byte)))
    (he : s.seq.listMem.read 0 ∈ ([0x01, 0x02, 0x03, 0x08] : List Byte) → s.xp.levels.eom = false)
    (hb : s.seq.listMem.read 0 = 0x09 → s.xp.levels.bom = false) :
    ∃ w, Started s w (s.listBegun.runEntries 17) := by
  have rest : s.LongAtRest := hm.elim .inl And.left
  have stopped : s.seq.listMem.read 0 ∉ ([0x09, 0x0A] : List Byte) → s.xp.motion = .stopped :=
    fun k => hm.resolve_right fun l => k l.2
  have begun := Started.fresh s
  simp only [List.mem_cons (a := s.seq.listMem.read 0), List.not_mem_nil, or_false] at hc
  rcases hc with hc | hc | hc | hc | hc | hc <;> rw [hc] at he hb stopped
  · cases hq : s.pool.writeQ with
    | nil =>
      rw [start_waitHead h hc (stopped (by decide)) hq]
      exact ⟨_, begun.setWork _⟩
    | cons n l =>
      exact ⟨_, (start_writeSlot h hc (stopped (by decide)) (he (by decide)) hq).1.toStarted⟩
  · exact ⟨_, (start_mark h hc (stopped (by decide)) (he (by decide))).1.toStarted⟩
  · cases hk : s.pool.lowestFree with
    | some n => exact ⟨_, (start_read h hc (stopped (by decide)) (he (by decide)) hk).toStarted⟩
    | none =>
      obtain ⟨v, begins, waits⟩ := start_waitSlot h hc (stopped (by decide)) (he (by decide)) hk
      rw [waits]
      exact ⟨_, begins.toStarted.keptIdle _⟩
  · exact ⟨_, (start_erase h hc (stopped (by decide)) (he (by decide))).1.toStarted⟩
  · exact ⟨_, (start_rewind h hc rest (hb rfl)).toStarted⟩
  · cases bom : s.xp.levels.bom with
    | false => exact ⟨_, (start_unload_rewinds h hc rest bom).1.toStarted⟩
    | true => exact ⟨_, (start_unload_ejects h hc rest bom).1⟩

/-- Of the entries without a SPACE or a SEEK, those that move the tape forward. -/
theorem forwardUnit_code {c : Byte} (h : c ∈ ([0x01, 0x02, 0x03, 0x08, 0x09, 0x0A] : List Byte))
    (k : c ∈ ([0x01, 0x02, 0x03, 0x04, 0x06, 0x08] : List Byte)) :
    c ∈ ([0x01, 0x02, 0x03, 0x08] : List Byte) := by
  revert c
  decide

/-- The first entry passes its checks (R59). -/
theorem first_check
    (hc : s.seq.listMem.read 0 ∈ ([0x01, 0x02, 0x03, 0x08, 0x09, 0x0A] : List Byte))
    (hm : s.xp.motion = .stopped ∨
      (s.LongAtRest ∧ s.seq.listMem.read 0 ∈ ([0x09, 0x0A] : List Byte)))
    (hw : s.seq.listMem.read 0 ∈ ([0x01, 0x02, 0x08] : List Byte) → s.xp.levels.wpermit = true ∧
      s.pos.zone ≠ .unknown ∧
        ((s.seq.listMem.read 2).getLsbD 3 = false ∨ s.pos.zone ≠ .pastEw))
    (he : s.seq.listMem.read 0 ∈ ([0x01, 0x02, 0x03, 0x08] : List Byte) → s.xp.levels.eom = false) :
    s.listBegun.entryCheck = none := by
  have writes : s.listBegun.entry.writes = true ↔ _ := ListEntry.writes_iff _
  have forward : s.listBegun.entry.forward = true ↔ _ := ListEntry.forward_iff _
  have long : s.listBegun.entry.long = true ↔ _ := ListEntry.long_iff _
  rw [listBegun_opcode] at writes forward long
  have unit : s.listBegun.unitCheck = none := by
    rw [unitCheck_eq, if_neg, if_neg, if_neg]
    · exact fun ⟨k, absent⟩ => nomatch (he (forwardUnit_code hc (forward.mp k))).symm.trans absent
    · exact fun ⟨k, unknown⟩ => (hw (writes.mp k)).2.1 unknown
    · exact fun ⟨k, denied⟩ => nomatch (hw (writes.mp k)).1.symm.trans denied
  have early : ¬ (s.listBegun.entry.stopAtEw && s.listBegun.pos.zone == .pastEw) = true := by
    intro k
    obtain ⟨stops, past⟩ := Bool.and_eq_true_iff.mp k
    obtain ⟨k, flag⟩ := Bool.and_eq_true_iff.mp stops
    exact (hw (writes.mp k)).2.2.elim (fun clear => nomatch clear.symm.trans flag)
      fun zone => zone (beq_iff_eq.mp past)
  rw [entryCheck_eq, unit, if_neg, if_neg, if_neg, if_neg nofun, if_neg early]
  · rintro ⟨fault, unready⟩
    rcases hm with hm | ⟨hm | ⟨-, ready⟩, -⟩
    · exact nomatch hm.symm.trans fault
    · exact nomatch hm.symm.trans fault
    · exact nomatch ready.symm.trans unready
  · rintro ⟨fault, short⟩
    rcases hm with hm | ⟨-, k⟩
    · exact nomatch hm.symm.trans fault
    · exact nomatch (long.mpr k).symm.trans short
  · rintro (absent | absent) <;> rcases hm with hm | ⟨hm | ⟨hm, -⟩, -⟩ <;>
      exact nomatch hm.symm.trans absent

/-! ## First entries that end as they begin (R54, R59, R64) -/

/-- The list ends with its first entry. -/
theorem start_ends (hi : s.seq.state = .idle) (hb : s.seq.firstBad = none)
    (h : s.listBegun.startEntry = (v, some o)) (hr : v.host.results.length < 16)
    (hv : EndsList v o c) : exec .start s = .next (v.endEntry o) :=
  (exec_start hi hb).trans (congrArg Host.Outcome.next (runEntries_ends 16 h hr hv))

/-- From `s`, the list's first entry has ended in `t` as it began, and its list with the cause. -/
structure FirstOver (s : State) (o : EntryOutcome) (c : EndCause) (r : Result) (t : State) :
    Prop where
  cmdstat : t.host.cmdstat = .accepted
  list : s.listEndedWith t r o c
  index : r.index = 0
  record : r.record = .clear
  pool : t.pool = s.pool
  stream : t.stream = s.stream
  capture : t.capture = s.capture

/-- What the entry's end leaves, where the entry has moved the tape and the position at most. -/
theorem firstOver (hr : s.host.results.length < 16) (hv : EndsList v o c)
    (hseq : v.seq = s.listBegun.freshEntry.seq) (hhost : v.host = s.listBegun.host)
    (hpool : v.pool = s.pool) (hstream : v.stream = s.stream) (hcapture : v.capture = s.capture)
    (hpending : v.pending = s.pending) :
    FirstOver s o c (v.buildResult o) (v.endEntry o) ∧ (v.endEntry o).pos = v.pos := by
  have results : v.host.results = s.host.results := by rw [hhost]; rfl
  have finish := endEntry_over (by rw [results]; exact hr) hv
  refine ⟨⟨by rw [finish.cmdstat, hhost]; rfl,
    finish.list results (by rw [hseq]; rfl) hpending, ?_, ?_, finish.pool.trans hpool,
    finish.stream.trans hstream, finish.capture.trans hcapture⟩, finish.pos⟩
  · show v.seq.cur = 0
    rw [hseq]
    rfl
  · show v.seq.record = .clear
    rw [hseq]
    rfl

/-- An entry that fails a check ends the list with the check's outcome. -/
theorem start_fails (hi : s.seq.state = .idle) (hb : s.seq.firstBad = none)
    (hr : s.host.results.length < 16) (h : s.listBegun.entryCheck = some o)
    (hv : EndsList s.listBegun.freshEntry o c) :
    ∃ r t, exec .start s = .next t ∧ FirstOver s o c r t ∧ t.pos = s.pos ∧
      (s.xp.ramping = false → t.xp.motion = s.xp.motion) := by
  obtain ⟨ended, pos⟩ := firstOver hr hv rfl rfl rfl rfl rfl rfl
  refine ⟨_, _, start_ends hi hb (startEntry_fails h) hr hv, ended, pos, fun rest => ?_⟩
  rw [(endEntry_atRest (u := s.listBegun.freshEntry) hr hv rest).1]
  rfl

/-- Which check the first entry fails (R59). -/
theorem first_fails {op : Byte} (hop : op = s.seq.listMem.read 0)
    (h : (s.xp.motion ∈ [.noCartridge, .notReady] ∧ o = .notReady) ∨
      (s.xp.motion = .fault ∧ op ∉ ([0x09, 0x0A] : List Byte) ∧ o = .transportFault) ∨
      (s.xp.motion = .fault ∧ op ∈ ([0x09, 0x0A] : List Byte) ∧ s.xp.levels.ready = false ∧
        o = .notReady) ∨
      (s.xp.motion ∉ [.noCartridge, .notReady, .fault] ∧
        ((op ∈ ([0x01, 0x02, 0x08] : List Byte) ∧ s.xp.levels.wpermit = false ∧
            o = .writeProtected) ∨
          (op ∈ ([0x01, 0x02, 0x08] : List Byte) ∧ s.xp.levels.wpermit = true ∧
            s.pos.zone = .unknown ∧ o = .positionUnknown) ∨
          (op ∈ ([0x01, 0x02, 0x03, 0x04, 0x06, 0x08] : List Byte) ∧
            (op ∈ ([0x01, 0x02, 0x08] : List Byte) → s.xp.levels.wpermit = true ∧
              s.pos.zone ≠ .unknown) ∧ s.xp.levels.eom = true ∧ o = .eomMet)))) :
    s.listBegun.entryCheck = some o ∧ o.terminal = true := by
  have writes : s.listBegun.entry.writes = true ↔ _ := ListEntry.writes_iff _
  have forward : s.listBegun.entry.forward = true ↔ _ := ListEntry.forward_iff _
  have long : s.listBegun.entry.long = true ↔ _ := ListEntry.long_iff _
  rw [listBegun_opcode, ← hop] at writes forward long
  rw [← writes, ← forward, ← long] at h
  have motion : s.listBegun.xp.motion = s.xp.motion := rfl
  have levels : s.listBegun.xp.levels = s.xp.levels := rfl
  have pos : s.listBegun.pos = s.pos := rfl
  rw [entryCheck_eq, unitCheck_eq, motion, levels, pos]
  rcases h with ⟨hm, rfl⟩ | ⟨hm, hl, rfl⟩ | ⟨hm, hl, hr, rfl⟩ | ⟨hm, h⟩
  · exact ⟨if_pos (List.mem_pair.mp hm), rfl⟩
  · simp [hm, hl, EntryOutcome.terminal]
  · simp [hm, hl, hr, EntryOutcome.terminal]
  · simp only [List.mem_cons, List.not_mem_nil, or_false, not_or] at hm
    rcases h with ⟨hw, hp, rfl⟩ | ⟨hw, hp, hz, rfl⟩ | ⟨hf, hw, he, rfl⟩
    · simp [hm, hw, hp, EntryOutcome.terminal]
    · simp [hm, hw, hp, hz, EntryOutcome.terminal]
    · by_cases k : s.listBegun.entry.writes = true
      · obtain ⟨hp, hz⟩ := hw k
        simp [hm, k, hp, hz, hf, he, EntryOutcome.terminal]
      · simp [hm, k, hf, he, EntryOutcome.terminal]

/-- A writing entry with STOP_AT_EW that begins behind EW ends EW_MET (R55, R59). -/
theorem first_ewMet (hm : s.xp.motion = .stopped)
    (hc : s.seq.listMem.read 0 ∈ ([0x01, 0x02, 0x08] : List Byte))
    (hf : (s.seq.listMem.read 2).getLsbD 3 = true) (hp : s.xp.levels.wpermit = true)
    (he : s.xp.levels.eom = false) (hz : s.pos.zone = .pastEw) :
    s.listBegun.entryCheck = some .ewMet := by
  have writes : s.listBegun.entry.writes = true := (ListEntry.writes_iff _).mpr hc
  have stops : s.listBegun.entry.stopAtEw = true := by rw [ListEntry.stopAtEw, writes]; exact hf
  have motion : s.listBegun.xp.motion = s.xp.motion := rfl
  have levels : s.listBegun.xp.levels = s.xp.levels := rfl
  have pos : s.listBegun.pos = s.pos := rfl
  rw [entryCheck_eq, unitCheck_eq, motion, levels, pos]
  simp [hm, stops, hp, he, hz]

/-- A REWIND at BOM leaves the transport in STOPPED, and is over (R54, R160). -/
def atBomStopped (s : State) : State :=
  (if s.xp.motion = .fault then s.listBegun.freshEntry.enterMotion .stopped s.xp.dir false
    else s.listBegun.freshEntry).onPos .bomReached

/-- A part that the motion entered does not touch. -/
theorem atBomStopped_part {α : Sort _} (f : State → α)
    (h : ∀ (v : State) d, f (v.enterMotion .stopped d false) = f v) (s : State) :
    f (if s.xp.motion = .fault then s.listBegun.freshEntry.enterMotion .stopped s.xp.dir false
      else s.listBegun.freshEntry) = f s.listBegun.freshEntry := by
  split
  · exact h _ _
  · rfl

theorem atBomStopped_motion (h : s.LongAtRest) : s.atBomStopped.xp.motion = .stopped := by
  rw [atBomStopped, onPos_xp]
  rcases h with h | ⟨h, -⟩
  · rw [if_neg (by rw [h]; nofun)]
    exact h
  · rw [if_pos h, enterMotion_xp]

theorem start_rewindAtBom (hc : s.seq.listMem.read 0 = 0x09) (hm : s.LongAtRest)
    (hb : s.xp.levels.bom = true) : s.listBegun.startEntry = (s.atBomStopped, some .done) := by
  have check : s.listBegun.entryCheck = none := first_check (by rw [hc]; decide)
    (.inr ⟨hm, by rw [hc]; decide⟩) (by rw [hc]; nofun) (by rw [hc]; nofun)
  have present : s.listBegun.freshEntry.xp.levels.bom = true := hb
  rw [startEntry_unit (x := .rewind) check (by decide) hc (by decide)]
  simp only [firstUnit, State.beginRewind, present, if_true]
  rfl

end State

open State in
/-- Settles O33: what each operation's entry begins with, and how a failed check ends it. -/
theorem startBeginsTheList : Obligations.StartBeginsTheList := by
  refine ⟨?pass, ?units, ?rewindAtBom, ?fails, ?ewMet⟩
  case pass =>
    intro s d w hi hb hc hm hf hr
    have code : PassCode s.listBegun.entry.opcode w d := by
      rw [listBegun_opcode]
      rcases hc with ⟨hc, rfl, rfl⟩ | ⟨hc, rfl, rfl⟩ | ⟨hc, rfl, rfl⟩ | ⟨hc, rfl, rfl⟩
      · exact .inl ⟨rfl, hc⟩
      · exact .inl ⟨rfl, hc⟩
      · exact .inr ⟨rfl, hc⟩
      · exact .inr ⟨rfl, hc⟩
    have asked := requestDir_stopped (s := s.listBegun.passUnit w) (d := d)
      (by rw [passUnit_motion]; exact hm) (by rw [passUnit_levels]; exact hf)
      (by rw [passUnit_levels]; exact hr)
    have begins := runEntries_begun 16 (startEntry_pass code (by simp [listBegun, hm]) hf asked)
    have start := (exec_start hi hb).trans (congrArg Host.Outcome.next begins)
    have begun := (((Started.fresh s).takeFramePeriod).setWork w).startMotion d
    refine ⟨_, start, begun.host, begun.seq, by rw [startMotion_xp], by rw [startMotion_xp], ?_,
      begun.levels, begun.timing, begun.tagMem, ?_, ?_, begun.stream, begun.capture, begun.pending,
      by rw [startMotion_wch], by rw [startMotion_wch]⟩
    · rw [startMotion_xp, passUnit_timing]
      rfl
    · rw [startMotion_pool, passUnit_pool]
      rfl
    · rw [startMotion_pos, passUnit_pos]
      rfl
  case units =>
    intro s q op flags hop hflags hc hi hb hp hm hw he hbom hq
    subst hop hflags hq
    have rest : s.xp.motion = .stopped ∨
        (s.LongAtRest ∧ s.seq.listMem.read 0 ∈ ([0x09, 0x0A] : List Byte)) :=
      hm.imp id fun ⟨fault, ready, long⟩ => ⟨.inr ⟨fault, ready⟩, long⟩
    have first : s.FirstPasses := ⟨first_check hc rest hw he, hp⟩
    have atRest : s.LongAtRest := rest.elim .inl And.left
    have stopped : s.seq.listMem.read 0 ∉ ([0x09, 0x0A] : List Byte) → s.xp.motion = .stopped :=
      fun k => rest.resolve_right fun l => k l.2
    have fresh := Started.fresh s
    obtain ⟨w, begun⟩ := start_started first hc rest he hbom
    refine ⟨_, exec_start hi hb, begun.host, begun.tagMem, begun.levels, begun.timing, begun.stream,
      begun.capture, begun.pending, begun.wgate, begun.egate, ?waitHead, ?writeSlot, ?mark, ?read,
      ?waitSlot, ?erase, ?rewind, ?unload⟩
    all_goals clear begun
    case waitHead =>
      intro op hq
      have hm := stopped (by rw [op]; decide)
      rw [start_waitHead first op hm hq]
      exact ⟨((Started.fresh s).setWork _).seq, setWork_pool _ _, setWork_pos _ _,
        (setWork_motion _ _).trans hm⟩
    case writeSlot =>
      intro n l op hq
      obtain ⟨begins, unit⟩ := start_writeSlot first op (stopped (by rw [op]; decide))
        (he (by rw [op]; decide)) hq
      exact ⟨begins.seq, begins.pos, begins.pool, begins.motion, begins.dir, unit⟩
    case mark =>
      intro op
      obtain ⟨begins, unit⟩ := start_mark first op (stopped (by rw [op]; decide))
        (he (by rw [op]; decide))
      exact ⟨begins.seq, begins.pool, begins.pos, begins.motion, begins.dir, unit⟩
    case read =>
      intro n op free lower
      have begins := start_read first op (stopped (by rw [op]; decide)) (he (by rw [op]; decide))
        (Pool.lowestFree_eq_some free lower)
      exact ⟨begins.seq, begins.pos, begins.pool, begins.motion, begins.dir, begins.keptIdle⟩
    case waitSlot =>
      intro op full
      obtain ⟨v, begins, waits⟩ := start_waitSlot first op (stopped (by rw [op]; decide))
        (he (by rw [op]; decide)) (Pool.lowestFree_eq_none full)
      rw [waits]
      exact ⟨begins.seq, begins.pool, begins.pos, begins.motion, begins.dir, rfl⟩
    case erase =>
      intro op
      obtain ⟨begins, held⟩ := start_erase first op (stopped (by rw [op]; decide))
        (he (by rw [op]; decide))
      exact ⟨begins.seq, begins.pool, begins.pos, begins.motion, begins.dir, held⟩
    case rewind =>
      intro op
      have begins := start_rewind first op atRest (hbom op)
      exact ⟨begins.seq, begins.pool, begins.pos, begins.motion, begins.timer⟩
    case unload =>
      intro op
      cases bom : s.xp.levels.bom with
      | false =>
        obtain ⟨begins, ind⟩ := start_unload_rewinds first op atRest bom
        exact ⟨begins.seq, begins.pool, fun _ => ⟨begins.motion, ind, begins.pos⟩, nofun⟩
      | true =>
        obtain ⟨begins, pool, motion, pos⟩ := start_unload_ejects first op atRest bom
        exact ⟨begins.seq, pool, nofun, fun _ =>
          ⟨motion, by rw [Transport.unloadLine, motion]; rfl, pos⟩⟩
  case rewindAtBom =>
    intro s hi hb hop hbom hm hl hcycle hr
    have seq : s.atBomStopped.seq = s.listBegun.freshEntry.seq :=
      atBomStopped_part State.seq (fun v d => by simp) s
    have first : s.atBomStopped.lastEntry := by
      rw [State.lastEntry, seq]
      exact ⟨hl.le, hcycle⟩
    have hv : EndsList s.atBomStopped .done .completed := .lastDone first
    have host := atBomStopped_part State.host (fun v d => by simp) s
    have pos : s.atBomStopped.pos =
        { s.pos with zone := .atBom, file := some 0, block := some 0 } :=
      congrArg Position.bomReached (atBomStopped_part State.pos (fun v d => by simp) s)
    have motion := atBomStopped_motion hm
    obtain ⟨ended, kept⟩ := firstOver hr hv seq host
      (atBomStopped_part State.pool (fun v d => by simp) s)
      (atBomStopped_part State.stream (fun v d => by simp) s)
      (atBomStopped_part State.capture (fun v d => by simp) s)
      (atBomStopped_part State.pending (fun v d => by simp) s)
    have room : s.atBomStopped.host.results.length < 16 := (congrArg
      (fun h : HostPort => h.results.length) host).trans_lt hr
    have xp := (endEntry_atRest room hv (by rw [Transport.ramping, motion])).1
    exact ⟨_, _, start_ends hi hb (start_rewindAtBom hop hm hbom) room hv, ended.cmdstat, ended.list,
      ended.index, ended.record, kept.trans pos, by rw [xp]; exact motion, ended.pool, ended.stream,
      ended.capture⟩
  case fails =>
    intro s op o hop hi hb hr h
    obtain ⟨check, terminal⟩ := first_fails hop h
    obtain ⟨r, t, starts, ended, pos, rest⟩ := start_fails hi hb hr check (.terminal terminal)
    refine ⟨t, r, starts, ended.cmdstat, ended.list, ended.index, ended.record, ended.pool, pos,
      ended.stream, ended.capture, fun still => rest ?_⟩
    exact Bool.eq_false_iff.mpr fun moves => still ((Transport.ramping_iff _).mp moves)
  case ewMet =>
    intro s hi hb hr hm hop hew hhalt hp he hz
    have check : s.listBegun.entryCheck = some .ewMet := first_ewMet hm hop hew hp he hz
    obtain ⟨r, t, starts, ended, pos, rest⟩ := start_fails hi hb hr check (.short rfl hhalt)
    exact ⟨t, r, starts, ended.cmdstat, ended.list, ended.index, ended.record, ended.pool, pos,
      (rest (by rw [Transport.ramping, hm])).trans hm, ended.stream, ended.capture⟩

end Sys2Proof.Machine
end

section
/-! SUPPORT. A block whose read-back was never sensed, and the failure episode that it opens (R63, R76,
R79 to R90, R103 to R107). -/

namespace Sys2Proof.Machine

/-- The operation of a recovery entry is the one that has its code. -/
theorem recoveryOp_of_code {e : ListEntry} {o : Op} (ho : o ∈ recoveryOps) (h : e.opcode = o.code) :
    e.recoveryOp = some o := by
  have named : ∀ o ∈ recoveryOps, opOf recoveryOps o.code = some o := by decide
  rw [ListEntry.recoveryOp, h]
  exact named o ho

/-- What the capture record shows of a slot's block that was never sensed (R106). -/
def Capture.unsensed (n : SlotNo) (f : Row) : Capture :=
  { kind := .write, slot := some n, index := 0, expected := some f, strict := 0, lenient := 0
    cls := some .failed }

/-- The verify record of an unsensed block whose watch has ended: every frame is missing. -/
def Verify.missed (v : Verify) : Verify :=
  { v with captureTaken := true, watch := .ended, compared := 0, bad := true }

theorem Verify.missed_class (v : Verify) : v.missed.class = .failed := rfl

namespace State

variable {s t : State} {n : SlotNo} {u w : WUnit} {v : Verify} {f : Row} {e : Episode} {c : Capture}

/-- Only the sequencer, the transport and the read channel may differ. -/
structure Kept (s t : State) : Prop where
  pool : t.pool = s.pool
  host : t.host = s.host
  wch : t.wch = s.wch
  pos : t.pos = s.pos
  stream : t.stream = s.stream
  capture : t.capture = s.capture
  pending : t.pending = s.pending

theorem Kept.trans {m : State} (h : Kept s m) (k : Kept m t) : Kept s t :=
  ⟨k.pool.trans h.pool, k.host.trans h.host, k.wch.trans h.wch, k.pos.trans h.pos,
    k.stream.trans h.stream, k.capture.trans h.capture, k.pending.trans h.pending⟩

theorem kept_setWork (w : Work) (s : State) : Kept s (s.setWork w) :=
  ⟨setWork_pool w s, setWork_host w s, setWork_wch w s, setWork_pos w s, setWork_stream w s,
    setWork_capture w s, setWork_pending w s⟩

theorem kept_takeFramePeriod (s : State) : Kept s s.takeFramePeriod :=
  ⟨rfl, rfl, rfl, rfl, rfl, rfl, rfl⟩

theorem takeFramePeriod_seq (s : State) : s.takeFramePeriod.seq = s.seq := rfl

theorem ForwardTaken.kept (h : ForwardTaken s t) (hm : s.xp.motion = .running) : Kept s t :=
  ⟨h.pool, h.host, h.wch hm, h.pos, h.stream, h.capture, h.pending⟩

/-! ## The watch ends unsensed (R103, R105, R106) -/

/-- The block of the slot `n`, first frame `f`, has its watch open, and nothing of it was sensed. -/
structure Unsensed (s : State) (u : WUnit) (n : SlotNo) (f : Row) (v : Verify) : Prop where
  unit : s.wch.unit = some u
  target : u.target = .slot n
  verify : s.wch.verify = some v
  watch : v.watch = .waiting
  compared : v.compared = 0
  untaken : v.captureTaken = false
  frame : v.frames.head? = some f

/-- The slot's block is classified FAILED, and its verify is over. -/
def blockFailed (n : SlotNo) (f : Row) (s : State) : State := { s with
  pool := s.pool.put n { s.slot n with wclass := some .failed }
  capture := some (.unsensed n f)
  wch := { s.wch with verify := none, watchTimer := none, deadline := none } }

theorem endWatch_unsensed (h : Unsensed s u n f v) (hs : s.seq.state ≠ .frozen) : s.endWatch =
    (s.setCapture (some { Capture.unsensed n f with cls := none })).setWch { s.wch with
      watchTimer := none, deadline := none, verify := some v.missed } := by
  have kind : u.unitKind = .write := by rw [WUnit.unitKind, h.target]
  have slot : u.slot = some n := by rw [WUnit.slot, h.target]
  obtain ⟨l, frames⟩ := List.head?_eq_some_iff.mp h.frame
  have first : v.expected 0 = f := by rw [Verify.expected, frames]; rfl
  have rows : v.compared - v.silentRun = 0 := by rw [h.compared, Nat.zero_sub]
  have missing : 0 < v.frames.length := by rw [frames]; exact Nat.zero_lt_succ _
  have sensed : ¬ v.watch = .sensing := by rw [h.watch]; nofun
  have taken : s.captureVerify 0 silentRow silentRow =
      (s.setCapture (some { Capture.unsensed n f with cls := none })).setWch
        { s.wch with verify := some { v with captureTaken := true } } := by
    simp only [State.captureVerify, h.unit, h.verify, if_neg hs, kind, slot, first]
    rfl
  simp only [State.endWatch, h.verify, rows, missing, h.untaken, and_self, if_true, if_neg sensed,
    taken, setWch_wch, Option.map_some, decide_true, Bool.or_true]
  rfl

theorem exec_unsensed {d : Byte × Byte} (hd : s.wch.deadline = some d) (h : Unsensed s u n f v)
    (hs : s.seq.state ≠ .frozen) : exec .verifyDeadline s =
      .next (carryOut ((s.blockFailed n f).writeReport u .failed)).settleChannel := by
  have due : s.wch.deadline.isSome = true := by rw [hd]; rfl
  refine congrArg Host.Outcome.next ((if_pos due).trans ?_)
  have recorded : State.recordClass u v.missed s.endWatch = s.blockFailed n f := by
    have taken : v.missed.captureTaken = true := rfl
    rw [endWatch_unsensed h hs]
    simp only [State.recordClass, h.target, v.missed_class, taken, if_true]
    rfl
  have unit : s.endWatch.wch.unit = some u := by rw [endWatch_unsensed h hs]; exact h.unit
  have verify : s.endWatch.wch.verify = some v.missed := by rw [endWatch_unsensed h hs]; rfl
  simp only [State.classifyVerify, unit, verify, recorded, v.missed_class]

/-! ## The episode opens (R63, R75 to R77, R79) -/

/-- The episode that the failure of a slot's unit opens. -/
def newEpisode (u : WUnit) (n : SlotNo) (s : State) : Episode :=
  { kind := .write, slot := some n, tag := u.tag, budget := s.entry.budget.toNat, attempts := 0
    cur := none, last := .failed }

/-- The episode is open, and the unit gone. -/
def episodeOpen (u : WUnit) (n : SlotNo) (s : State) : State :=
  ((s.setEpisode (some (s.newEpisode u n))).setWork .none).setSeqState .recovery

theorem writeReport_failed (hs : s.seq.state = .running) (hu : u.target = .slot n) :
    s.writeReport u .failed = if s.entry.noRecovery || s.seq.ctl.recLength == 0
      then (s.episodeOpen u n).exhaust else (s.episodeOpen u n).recover 0 := by
  have kind : u.unitKind = .write := by rw [WUnit.unitKind, hu]
  have slot : u.slot = some n := by rw [WUnit.slot, hu]
  have runs : s.seq.state.unitRuns = true := by rw [hs]; rfl
  have fails : s.entry.fails .failed = true := rfl
  simp only [State.writeReport, runs, fails, if_true, kind, slot, State.openEpisode]
  rfl

/-- The first entry of the recovery list becomes the current one. -/
def recoveryBegun (u : WUnit) (n : SlotNo) (s : State) : State := (s.episodeOpen u n).enterRecovery 0

theorem recoveryBegun_seq (u : WUnit) (n : SlotNo) (s : State) : (s.recoveryBegun u n).seq =
    { s.seq with
      state := .recovery, work := .none, recCount := 0
      episode := some { s.newEpisode u n with cur := some 0 } } := by
  simp [recoveryBegun, episodeOpen, State.enterRecovery, State.setEpisode, State.setSeqState,
    State.setRecCount]

theorem recoveryBegun_xp (u : WUnit) (n : SlotNo) (s : State) :
    (s.recoveryBegun u n).xp = { s.xp with blankTimer := none } := by
  simp [recoveryBegun, episodeOpen, State.enterRecovery, State.setEpisode, State.setSeqState,
    State.setRecCount, setWork_none, State.stopBlank]

theorem recoveryBegun_kept (u : WUnit) (n : SlotNo) (s : State) : Kept s (s.recoveryBegun u n) := by
  constructor <;>
    simp [recoveryBegun, episodeOpen, State.enterRecovery, State.setEpisode, State.setSeqState,
      State.setRecCount]

theorem episodeOpen_seq (u : WUnit) (n : SlotNo) (s : State) : (s.episodeOpen u n).seq =
    { s.seq with state := .recovery, work := .none, episode := some (s.newEpisode u n) } := by
  simp [episodeOpen, State.setEpisode, State.setSeqState]

/-! ## FREEZE_ON_FAILURE (R89, R90) -/

/-- The sequencer is FROZEN, the tape not yet asked to stop. -/
def frozenUnit (u : WUnit) (n : SlotNo) (s : State) : State :=
  ((((s.episodeOpen u n).setEpisode (some (s.newEpisode u n))).setSeqState .frozen).setWork
    .none).dropTarget

theorem frozenUnit_seq (u : WUnit) (n : SlotNo) (s : State) : (s.frozenUnit u n).seq =
    { s.seq with state := .frozen, work := .none, episode := some (s.newEpisode u n) } := by
  simp [frozenUnit, episodeOpen, State.setEpisode, State.setSeqState]

theorem frozenUnit_xp (u : WUnit) (n : SlotNo) (s : State) :
    (s.frozenUnit u n).xp = { s.xp with blankTimer := none } := by
  simp [frozenUnit, episodeOpen, State.setEpisode, State.setSeqState, setWork_none,
    State.stopBlank]

theorem frozenUnit_kept (u : WUnit) (n : SlotNo) (s : State) : Kept s (s.frozenUnit u n) := by
  constructor <;> simp [frozenUnit, episodeOpen, State.setEpisode, State.setSeqState]

/-- The exhausted episode freezes, and the running tape stops by its ramp. -/
theorem exhaust_freezes (hf : s.seq.ctl.freezeOnFailure = true) (hm : s.xp.motion = .running)
    (hp : s.wch.phase = .after) : (s.episodeOpen u n).exhaust =
      (((s.frozenUnit u n).stopMotion.hold none).raise .frozenEntered, none) := by
  have flag : (s.episodeOpen u n).seq.ctl.freezeOnFailure = true := by
    rw [episodeOpen_seq]
    exact hf
  have episode : (s.episodeOpen u n).seq.episode.map (fun e => { e with cur := none }) =
      some (s.newEpisode u n) := by
    rw [episodeOpen_seq]
    rfl
  have stops : (s.frozenUnit u n).requestStop = (s.frozenUnit u n).stopMotion.hold none := by
    rw [State.requestStop, if_neg (by rw [(frozenUnit_kept u n s).wch, hp]; nofun),
      takeStop_moving (by rw [frozenUnit_xp]; simp [hm])]
  simp only [State.exhaust, flag, if_true, State.freeze, episode]
  rw [← stops]
  rfl

/-! ## The first recovery entry (R79 to R82, R84, R88) -/

/-- The checks of R80 pass. -/
theorem stepCheck_passes {a b : Bool} (hm : s.xp.motion = .running) (h : s.MayWrite) :
    s.stepCheck a b = none := by
  simp [State.stepCheck, hm, State.writeCheck, h.wpermit, h.zone, h.eom]

/-- The episode begins with the entry V0. -/
structure HasFirst (s : State) (x : Op) : Prop where
  length : 0 < s.seq.ctl.recLength
  op : (s.seq.recovery 0).recoveryOp = some x

theorem HasFirst.opened {x : Op} (h : s.HasFirst x) (u : WUnit) (n : SlotNo) :
    0 < (s.episodeOpen u n).seq.ctl.recLength ∧
      (((s.episodeOpen u n).enterRecovery ⟨0, Nat.zero_lt_succ 3⟩).seq.recovery 0).recoveryOp =
        some x := by
  refine ⟨by rw [episodeOpen_seq]; exact h.length, ?_⟩
  have seq := recoveryBegun_seq u n s
  rw [recoveryBegun, show (0 : Fin 4) = ⟨0, Nat.zero_lt_succ 3⟩ from rfl] at seq
  rw [seq]
  exact h.op

theorem recover_retry (h : s.HasFirst .retry) :
    (s.episodeOpen u n).recover 0 = (s.recoveryBegun u n).retryStep := by
  obtain ⟨length, op⟩ := h.opened u n
  rw [State.recover, State.recoverFrom, dif_pos (Nat.zero_lt_succ 3), if_pos length]
  simp only [op]
  rfl

theorem recover_skip (h : s.HasFirst .skip) :
    (s.episodeOpen u n).recover 0 = (s.recoveryBegun u n).skip := by
  obtain ⟨length, op⟩ := h.opened u n
  rw [State.recover, State.recoverFrom, dif_pos (Nat.zero_lt_succ 3), if_pos length]
  simp only [op]
  rfl

theorem recover_erase (h : s.HasFirst .erase)
    (hk : (s.recoveryBegun u n).stepCheck true true = none) :
    (s.episodeOpen u n).recover 0 = (s.recoveryBegun u n).recoveryErase := by
  obtain ⟨length, op⟩ := h.opened u n
  have check : ((s.episodeOpen u n).enterRecovery ⟨0, Nat.zero_lt_succ 3⟩).stepCheck true true =
    none := hk
  rw [State.recover, State.recoverFrom, dif_pos (Nat.zero_lt_succ 3), if_pos length]
  simp only [op, check]
  rfl

theorem recover_spaceRev (h : s.HasFirst .spaceRev)
    (hk : (s.recoveryBegun u n).stepCheck false false = none)
    (hr : (((s.recoveryBegun u n).takeFramePeriod).setWork (.space .reverse)).requestDir .reverse =
      (t, .taken)) : (s.episodeOpen u n).recover 0 = (t, none) := by
  obtain ⟨length, op⟩ := h.opened u n
  have check : ((s.episodeOpen u n).enterRecovery ⟨0, Nat.zero_lt_succ 3⟩).stepCheck false false =
    none := hk
  have asked : ((((s.episodeOpen u n).enterRecovery ⟨0, Nat.zero_lt_succ 3⟩).takeFramePeriod).setWork
    (.space .reverse)).requestDir .reverse = (t, .taken) := hr
  rw [State.recover, State.recoverFrom, dif_pos (Nat.zero_lt_succ 3), if_pos length]
  simp only [op, check, asked, State.afterStepRequest]

/-! ## RETRY (R84, R85) -/

theorem beginWriteUnit_taken (x : WUnit) (he : s.xp.levels.eom = false) (hm : s.MayForward) :
    ∃ t, s.beginWriteUnit x = (t.placeUnit { x with framePeriod := t.xp.timing.frameDiv }, .taken) ∧
      ForwardTaken s.takeFramePeriod t := by
  obtain ⟨t, request, taken⟩ := requestDir_forward (s := s.takeFramePeriod) he hm
  exact ⟨t, by rw [State.beginWriteUnit, request], taken⟩

/-- A write episode's re-attempt that passes its checks writes the slot again. -/
theorem reattempt_slot (he : s.seq.episode = some e) (hk : e.kind = .write) (hn : e.slot = some n)
    (hc : (s.setSeqState .recovery).stepCheck true true = none) : s.reattempt =
      State.afterStepRequest
        ((((s.setSeqState .recovery).setWork (.writeSlot n)).beginWriteUnit
          (((s.setSeqState .recovery).setWork (.writeSlot n)).slotUnit n true)).2)
        ((((s.setSeqState .recovery).setWork (.writeSlot n)).beginWriteUnit
          (((s.setSeqState .recovery).setWork (.writeSlot n)).slotUnit n true)).1) := by
  have check : (s.setSeqState .recovery).stepCheck (UnitKind.write != .read) true = none := hc
  simp only [State.reattempt, he, check, hk, hn]

/-- An attempt of the budget is spent. -/
def attempted (s : State) : State := (s.countAttempt true).setSeqState .recovery

theorem attempted_kept (s : State) : Kept s s.attempted := ⟨rfl, rfl, rfl, rfl, rfl, rfl, rfl⟩
theorem attempted_xp (s : State) : s.attempted.xp = s.xp := rfl
theorem attempted_seq (s : State) : s.attempted.seq = { s.seq with
    state := .recovery
    record := s.seq.record.retry
    episode := s.seq.episode.map fun e =>
      { e with attempts := bump e.attempts, budget := e.budget - 1 } } := rfl

/-- The failed slot is to be written again. -/
def retried (u : WUnit) (n : SlotNo) (s : State) : State :=
  (s.recoveryBegun u n).attempted.setWork (.writeSlot n)

theorem retried_seq (u : WUnit) (n : SlotNo) (s : State) : (s.retried u n).seq =
    { s.seq with
      state := .recovery, work := .writeSlot n, recCount := 0
      record := { s.seq.record with retries := bump s.seq.record.retries }
      episode := some { s.newEpisode u n with
        cur := some 0, attempts := 1, budget := s.entry.budget.toNat - 1 } } := by
  rw [retried, setWork_seq, attempted_seq, recoveryBegun_seq]
  rfl

theorem retried_kept (u : WUnit) (n : SlotNo) (s : State) : Kept s (s.retried u n) :=
  ((recoveryBegun_kept u n s).trans (attempted_kept _)).trans (kept_setWork _ _)

theorem retried_xp (u : WUnit) (n : SlotNo) (s : State) :
    ∃ b, (s.retried u n).xp = { s.xp with blankTimer := b } := by
  obtain ⟨b, xp⟩ := setWork_xp (.writeSlot n) (s.recoveryBegun u n).attempted
  exact ⟨b, by rw [retried, xp, attempted_xp, recoveryBegun_xp]⟩

theorem retry_begins (hb : 0 < s.entry.budget.toNat) (hm : s.xp.motion = .running)
    (hd : s.xp.dir = .forward) (hw : s.MayWrite) : ∃ t w,
      (s.recoveryBegun u n).retryStep = (t.placeUnit w, none) ∧
      ForwardTaken (s.retried u n).takeFramePeriod t ∧ w.target = .slot n ∧
      w.reattempt = true ∧ w.tag = (s.slot n).tag := by
  have episode : (s.recoveryBegun u n).seq.episode =
      some { s.newEpisode u n with cur := some 0 } := by rw [recoveryBegun_seq]
  have budget : ¬ s.entry.budget.toNat = 0 := by omega
  have attempt : (s.recoveryBegun u n).attempted.seq.episode = some { s.newEpisode u n with
      cur := some 0, attempts := 1, budget := s.entry.budget.toNat - 1 } := by
    rw [attempted_seq, episode]
    rfl
  have xp := (attempted_xp (s.recoveryBegun u n)).trans (recoveryBegun_xp u n s)
  have pos := ((recoveryBegun_kept u n s).trans (attempted_kept _)).pos
  have check : (s.recoveryBegun u n).attempted.stepCheck true true = none :=
    stepCheck_passes (by rw [xp]; exact hm)
      ⟨by rw [xp]; exact hw.wpermit, by rw [pos]; exact hw.zone, by rw [xp]; exact hw.eom⟩
  obtain ⟨b, xp⟩ := retried_xp u n s
  obtain ⟨t, begins, taken⟩ := beginWriteUnit_taken (s := s.retried u n)
    ((s.retried u n).slotUnit n true) (by rw [xp]; exact hw.eom)
    (by rw [MayForward, xp]; exact .inr ⟨hm, hd⟩)
  have tag : ((s.retried u n).slot n).tag = (s.slot n).tag := by
    rw [State.slot, (retried_kept u n s).pool]
    rfl
  have again := reattempt_slot (s := (s.recoveryBegun u n).countAttempt true) attempt rfl rfl check
  have retries : (s.recoveryBegun u n).retryStep =
      ((s.recoveryBegun u n).countAttempt true).reattempt := by
    simp only [State.retryStep, episode, newEpisode, if_neg budget]
  refine ⟨t, { (s.retried u n).slotUnit n true with framePeriod := t.xp.timing.frameDiv }, ?_, taken,
    rfl, rfl, tag⟩
  rw [retries, again]
  show State.afterStepRequest ((s.retried u n).beginWriteUnit ((s.retried u n).slotUnit n true)).2
    ((s.retried u n).beginWriteUnit ((s.retried u n).slotUnit n true)).1 = _
  rw [begins]
  rfl

/-! ## ERASE and SPACE_REV (R81, R82) -/

/-- A recovery ERASE begins on the running tape. -/
theorem erase_begins (hm : s.xp.motion = .running) (hd : s.xp.dir = .forward)
    (he : s.xp.levels.eom = false) : ∃ t, s.recoveryErase = (t.placeErase, none) ∧
      ForwardTaken (s.setWork .erase).takeFramePeriod t := by
  obtain ⟨b, xp⟩ := setWork_xp .erase s
  obtain ⟨t, begins, taken⟩ := beginEraseUnit_taken (s := s.setWork .erase)
    (by rw [xp]; exact he) (by rw [MayForward, xp]; exact .inr ⟨hm, hd⟩)
  refine ⟨t, ?_, taken⟩
  simp only [State.recoveryErase, begins, State.afterStepRequest]

/-- A REVERSE request of a tape that runs forward outside BLOCK stops it and is held (R153). -/
theorem requestDir_turns (hm : s.xp.motion = .running) (hd : s.xp.dir = .forward)
    (hb : s.xp.levels.bom = false) (hp : s.wch.phase ≠ .block) :
    s.requestDir .reverse = (s.stopAndHold (.dir .reverse), .taken) := by
  simp only [State.requestDir, hb, Bool.false_eq_true, if_false, State.takeDir, hm, hd, reduceCtorEq,
    if_neg hp]

/-! ## SKIP (R88) -/

/-- The record of an entry whose last unit is skipped (R47, R88). -/
theorem skip_record {r : EntryRecord} {x : Byte} (h : x.toNat = r.unitsDone + 1) :
    r.skip = { r with unitsDone := r.unitsDone + 1, skipped := bump r.skipped } := by
  have lt : r.unitsDone < 255 := by
    have := x.isLt
    omega
  rw [EntryRecord.skip, bump_of_lt lt]

/-- The slot of a skipped write is HELD and its unit counted. -/
def skipped (n : SlotNo) (s : State) : State :=
  (((s.setPool (s.pool.hold n)).record .skip).closeEpisode).setWork .none

theorem skipped_seq (n : SlotNo) (s : State) : (s.skipped n).seq =
    { s.seq with work := .none, episode := none, record := s.seq.record.skip } := by
  rw [skipped, setWork_seq, State.closeEpisode, setWork_seq]
  rfl

theorem skipped_xp (n : SlotNo) (s : State) :
    (s.skipped n).xp = { s.xp with blankTimer := none } := by
  rw [skipped, setWork_none, State.closeEpisode, setWork_none]
  rfl

/-- The skipped unit is the last of its entry. -/
theorem skip_last (he : s.seq.episode = some e) (hk : e.kind = .write) (hn : e.slot = some n)
    (hc : s.entry.count.toNat = s.seq.record.unitsDone + 1) :
    s.skip = (s.skipped n, some .done) := by
  have nonzero : s.entry.count ≠ 0 := by
    intro zero
    rw [zero] at hc
    simp at hc
  have entry : ((((s.setPool (s.pool.hold n)).record .skip).closeEpisode)).entry = s.entry := by
    rw [State.closeEpisode, setWork_entry]
    exact entry_congr rfl rfl
  have count : ((((s.setPool (s.pool.hold n)).record .skip).closeEpisode)).seq.record.unitsDone =
      s.seq.record.unitsDone + 1 := by
    rw [State.closeEpisode, setWork_seq]
    exact congrArg EntryRecord.unitsDone (skip_record hc)
  simp only [State.skip, he, State.skipFate, hk, hn]
  rw [unitOver_done (by rw [entry]; exact nonzero) (by rw [entry, count, hc])]
  rfl

theorem skipped_counted (hc : s.entry.count.toNat = s.seq.record.unitsDone + 1)
    (hw : s.wch = { s.wch with verify := none, watchTimer := none, deadline := none }) :
    LastCounted s { s.seq.record with
        unitsDone := s.seq.record.unitsDone + 1, skipped := bump s.seq.record.skipped }
      (s.pool.hold n) (s.skipped n) where
  seq := ⟨none, by rw [skipped_seq, skip_record hc]⟩
  xp := skipped_xp n s
  wch := by
    rw [← hw]
    simp [skipped, State.closeEpisode, State.setEpisode, State.record]
  pool := by
    simp [skipped, State.closeEpisode, State.setEpisode, State.record]
  host := by simp [skipped, State.closeEpisode, State.setEpisode, State.record]
  pos := by simp [skipped, State.closeEpisode, State.setEpisode, State.record]
  stream := by simp [skipped, State.closeEpisode, State.setEpisode, State.record]
  capture := by simp [skipped, State.closeEpisode, State.setEpisode, State.record]
  pending := by simp [skipped, State.closeEpisode, State.setEpisode, State.record]

/-! ## The channel returns to IDLE as the tape is asked to stop (R97, R107) -/

/-- What the tape's stop after a read-back that is over leaves of a state. -/
structure StoppedIdle (s t : State) : Prop where
  xp : t.xp.motion = .stopping ∧ t.xp.dir = s.xp.dir
  wch : t.wch = .reset
  seq : t.seq = s.seq
  pool : t.pool = s.pool
  host : t.host = s.host
  pos : t.pos = s.pos
  stream : t.stream = s.stream
  capture : t.capture = s.capture
  pending : t.pending = s.pending

theorem stopMotion_settles (hp : s.wch.phase = .after) (hv : s.wch.verify = none)
    (r : Option HeldRequest) : (s.stopMotion.hold r).settleChannel =
      (s.stopMotion.hold r).channelIdle := by
  have wch := stopMotion_wch s
  exact settleChannel_after (by rw [hold_wch, wch]; exact hp) (by rw [hold_wch, wch]; exact hv)

theorem stopMotion_idle (s : State) (r : Option HeldRequest) :
    StoppedIdle s (s.stopMotion.hold r).channelIdle where
  xp := by
    show s.stopMotion.xp.motion = _ ∧ s.stopMotion.xp.dir = _
    rw [stopMotion_xp]
    exact ⟨rfl, rfl⟩
  wch := rfl
  seq := s.stopMotion_seq
  pool := s.stopMotion_pool
  host := s.stopMotion_host
  pos := s.stopMotion_pos
  stream := s.stopMotion_stream
  capture := s.stopMotion_capture
  pending := s.stopMotion_pending

theorem stopMotion_raise_settles (hp : s.wch.phase = .after) (hv : s.wch.verify = none) (e : Event) :
    ((s.stopMotion.hold none).raise e).settleChannel = (s.stopMotion.hold none).channelIdle.raise e := by
  have wch : ((s.stopMotion.hold none).raise e).wch =
    { s.wch with wgate := false, egate := false, run := false } := stopMotion_wch s
  exact settleChannel_after (by rw [wch]; exact hp) (by rw [wch]; exact hv)

/-! ## What the first recovery entry leads to (R79 to R85, R88) -/

/-- A block's read-back is over on the tape that runs forward under the erase gate, and another may be
written. -/
structure AfterBlock (s : State) : Prop where
  phase : s.wch.phase = .after
  verified : s.wch = { s.wch with verify := none, watchTimer := none, deadline := none }
  run : s.wch.run = true
  motion : s.xp.motion = .running
  dir : s.xp.dir = .forward
  mayWrite : s.MayWrite

/-- The checks of R80 pass before the first recovery entry. -/
theorem AfterBlock.check (h : s.AfterBlock) {a b : Bool} :
    (s.recoveryBegun u n).stepCheck a b = none := by
  have xp := recoveryBegun_xp u n s
  have pos := (recoveryBegun_kept u n s).pos
  exact stepCheck_passes (by rw [xp]; exact h.motion) ⟨by rw [xp]; exact h.mayWrite.wpermit,
    by rw [pos]; exact h.mayWrite.zone, by rw [xp]; exact h.mayWrite.eom⟩

/-- What the recovery entry's event gives, the unit's failure taken into account. -/
def recovered (u : WUnit) (n : SlotNo) (s : State) : State :=
  (carryOut ((s.episodeOpen u n).recover 0)).settleChannel

/-- RETRY: the slot's gap goes on. -/
theorem recovered_retry {g : Byte} (h : s.AfterBlock) (first : s.HasFirst .retry)
    (hb : 0 < s.entry.budget.toNat) (hg : s.wch.gapTimer = .running g) : ∃ t w,
      s.recovered u n = t.setWch (s.recovered u n).wch ∧ Kept s t ∧
      t.seq = (s.retried u n).seq ∧ t.xp.motion = .running ∧ t.xp.dir = .forward ∧
      Placed t w (s.recovered u n) ∧ t.wch.gapTimer = .running g ∧ w.target = .slot n ∧
      w.reattempt = true ∧ w.tag = (s.slot n).tag := by
  obtain ⟨t, w, retries, taken, target, reattempt, tag⟩ := retry_begins (u := u) (n := n) hb h.motion
    h.dir h.mayWrite
  obtain ⟨b, xp⟩ := retried_xp u n s
  have runs : (s.retried u n).takeFramePeriod.xp.motion = .running := by
    rw [takeFramePeriod_xp, xp]
    exact h.motion
  have kept := ((retried_kept u n s).trans (kept_takeFramePeriod _)).trans (taken.kept runs)
  have timer : t.wch.gapTimer = .running g := by rw [kept.wch]; exact hg
  have settled : s.recovered u n = (t.placeUnit w).settleChannel := by
    rw [recovered, recover_retry first, retries]
    rfl
  have placed := placed_gap (s := t) (w := w) (by rw [kept.wch]; exact h.phase)
    (by rw [kept.wch]; exact h.run) timer
  rw [← settled] at placed
  have motion : t.xp.motion = .running := by rw [taken.motion, if_neg (by rw [runs]; nofun)]
  exact ⟨t, w, placed.rest, kept, taken.seq.trans (takeFramePeriod_seq _), motion,
    taken.dir, placed, timer, target, reattempt, tag⟩

/-- ERASE: the erase begins at once under the erase gate. -/
theorem recovered_erase {k : Nat} (h : s.AfterBlock) (first : s.HasFirst .erase)
    (hk : s.pos.file = some k) : ∃ t, s.recovered u n = { t with
        wch := t.erasing
        pos := { t.pos with map := t.pos.map.filter (fun e => e.1 < k) } } ∧
      Kept s t ∧ t.seq = { (s.recoveryBegun u n).seq with work := .erase } ∧
      t.xp.motion = .running ∧ t.xp.timing = s.xp.timing := by
  have xp := recoveryBegun_xp u n s
  have begun := recoveryBegun_kept u n s
  obtain ⟨t, erases, taken⟩ := erase_begins (s := s.recoveryBegun u n) (by rw [xp]; exact h.motion)
    (by rw [xp]; exact h.dir) (by rw [xp]; exact h.mayWrite.eom)
  have runs : ((s.recoveryBegun u n).setWork .erase).takeFramePeriod.xp.motion = .running := by
    rw [takeFramePeriod_xp, setWork_motion, xp]
    exact h.motion
  have kept := ((begun.trans (kept_setWork .erase _)).trans (kept_takeFramePeriod _)).trans
    (taken.kept runs)
  have motion : t.xp.motion = .running := by rw [taken.motion, if_neg (by rw [runs]; nofun)]
  have levels : t.xp.levels = s.xp.levels := by
    rw [taken.levels, takeFramePeriod_xp, setWork_levels, xp]
  have timing : t.xp.timing = s.xp.timing := by
    obtain ⟨b, work⟩ := setWork_xp .erase (s.recoveryBegun u n)
    rw [taken.timing, takeFramePeriod_xp, work, xp]
  have place : t.placeErase = t.startErasing := by
    simp only [State.placeErase, kept.wch, h.phase, h.run, if_true]
  have gate := mayGate_of_running motion taken.dir (by rw [levels]; exact h.mayWrite.wpermit)
  have begins := startErasing_eq gate (by rw [kept.pos]; exact h.mayWrite.zone)
    (by rw [kept.pos]; exact hk)
  have settled : s.recovered u n = t.startErasing := by
    rw [recovered, recover_erase first h.check, erases, place]
    exact settleChannel_erasing (by rw [begins]; rfl) (by rw [begins]; rfl)
  refine ⟨t, settled.trans begins, kept, ?_, motion, timing⟩
  exact (taken.seq.trans (takeFramePeriod_seq _)).trans (setWork_seq _ _)

/-- SPACE_REV: the tape stops, and the motion waits. -/
theorem recovered_spaceRev (h : s.AfterBlock) (first : s.HasFirst .spaceRev)
    (hb : s.xp.levels.bom = false) : ∃ z, StoppedIdle z (s.recovered u n) ∧ Kept s z ∧
      z.seq = { (s.recoveryBegun u n).seq with work := .space .reverse } ∧ z.xp.dir = .forward ∧
      (s.recovered u n).xp.held = some (.dir .reverse) := by
  have xp := recoveryBegun_xp u n s
  have begun := recoveryBegun_kept u n s
  have kept := (begun.trans (kept_takeFramePeriod _)).trans (kept_setWork (.space .reverse) _)
  have seq : (((s.recoveryBegun u n).takeFramePeriod).setWork (.space .reverse)).seq =
      { (s.recoveryBegun u n).seq with work := .space .reverse } := setWork_seq _ _
  have motion : (((s.recoveryBegun u n).takeFramePeriod).setWork (.space .reverse)).xp.motion =
      .running := by
    rw [setWork_motion, takeFramePeriod_xp, xp]
    exact h.motion
  have dir : (((s.recoveryBegun u n).takeFramePeriod).setWork (.space .reverse)).xp.dir =
      .forward := by
    rw [setWork_dir, takeFramePeriod_xp, xp]
    exact h.dir
  have bom : (((s.recoveryBegun u n).takeFramePeriod).setWork (.space .reverse)).xp.levels.bom =
      false := by
    rw [setWork_levels, takeFramePeriod_xp, xp]
    exact hb
  have steps := fun t => recover_spaceRev (t := t) (u := u) (n := n) first h.check
  generalize ((s.recoveryBegun u n).takeFramePeriod).setWork (.space .reverse) = z at *
  have settled : s.recovered u n = (z.stopMotion.hold (some (.dir .reverse))).channelIdle := by
    rw [recovered, steps _ (requestDir_turns motion dir bom (by rw [kept.wch, h.phase]; nofun))]
    exact stopMotion_settles (by rw [kept.wch]; exact h.phase) (by rw [kept.wch, h.verified]) _
  rw [settled]
  exact ⟨z, stopMotion_idle z _, kept, seq, dir, rfl⟩

/-- SKIP of the list's last unit: the list is over. -/
theorem recovered_skip (h : s.AfterBlock) (first : s.HasFirst .skip)
    (hc : s.entry.count.toNat = s.seq.record.unitsDone + 1) (hl : s.lastEntry)
    (hr : s.host.results.length < 16) : ∃ r,
      s.listEndedWith (s.recovered u n) r .done .completed ∧
      r.record = { s.seq.record with
        unitsDone := s.seq.record.unitsDone + 1, skipped := bump s.seq.record.skipped } ∧
      (s.recovered u n).pool = s.pool.hold n ∧ (s.recovered u n).wch = .reset ∧
      (s.recovered u n).xp.motion = .stopping ∧ (s.recovered u n).pos = s.pos ∧
      (s.recovered u n).stream = s.stream ∧ (s.recovered u n).capture = s.capture := by
  let b := s.recoveryBegun u n
  have kept := recoveryBegun_kept u n s
  have seq : b.seq = _ := recoveryBegun_seq u n s
  have episode : b.seq.episode = some { s.newEpisode u n with cur := some 0 } := by rw [seq]
  have entry : b.entry = s.entry := entry_congr (by rw [seq]) (by rw [seq])
  have count : b.entry.count.toNat = b.seq.record.unitsDone + 1 := by rw [entry, seq]; exact hc
  have counted := skipped_counted (s := b) (n := n) count (by rw [kept.wch]; exact h.verified)
  obtain ⟨t, settled, list, pool, wch, motion, capture, pos, stream⟩ := counted.ends
    (by simpa only [State.lastEntry, seq] using hl) (by rw [kept.host]; exact hr)
    (by rw [recoveryBegun_xp]; exact h.motion) (by rw [kept.wch]; exact h.phase)
  have ends : s.recovered u n = t := by
    rw [recovered, recover_skip first, skip_last episode rfl rfl count]
    exact settled
  rw [ends]
  refine ⟨_, listEndedWith_congr list (by rw [kept.host]) (by rw [seq]) kept.pending, ?_,
    pool.trans (by rw [kept.pool]), wch, motion, pos.trans kept.pos, stream.trans kept.stream,
    capture.trans kept.capture⟩
  obtain ⟨e, record⟩ := counted.seq
  exact (congrArg Sequencer.record record).trans (by rw [seq])

/-- The failed slot, held, keeps its class. -/
theorem blockFailed_hold (ha : (s.slot n).state = .active) : (s.blockFailed n f).pool.hold n =
    s.pool.put n { s.slot n with state := .held, wclass := some .failed } := by
  have failed : (s.blockFailed n f).pool.get n = { s.slot n with wclass := some .failed } := by
    show (s.pool.put n _).get n = _
    rw [Pool.get_put, if_pos rfl]
  rw [Pool.hold, failed, if_pos ha]
  show (s.pool.put n _).put n _ = _
  rw [Pool.put_put]

end State

open State in
/-- Settles O39: the watch ended unsensed, and what the failure leads to: FROZEN, or the first recovery
entry. -/
theorem unsensedBlockFails : Obligations.UnsensedBlockFails := by
  refine ⟨?opens, ?noTimer, ?noDeadline, ?freezes, ?recovers⟩
  case opens =>
    intro s x v ht hv hw
    show execVerifyWatchOpen s = _
    simp only [execVerifyWatchOpen, ht, hv, hw, if_true]
    rfl
  case noTimer =>
    intro s ht
    show execVerifyWatchOpen s = _
    simp only [execVerifyWatchOpen, ht]
  case noDeadline =>
    intro s hd
    exact congrArg Host.Outcome.next (if_neg (by rw [hd]; nofun))
  case freezes =>
    intro s u v n d f phase deadline unit target verify watch compared taken frame hs hn hf hw hm
    have missed : Unsensed s u n f v := ⟨unit, target, verify, watch, compared, taken, frame⟩
    have direct : ((s.blockFailed n f).entry.noRecovery ||
        (s.blockFailed n f).seq.ctl.recLength == 0) = true := by
      show (s.entry.noRecovery || s.seq.ctl.recLength == 0) = true
      rw [hn]
      rfl
    have frozen := exhaust_freezes (s := s.blockFailed n f) (u := u) (n := n) hf hm phase
    have start := exec_unsensed deadline missed (by rw [hs]; nofun)
    rw [writeReport_failed (s := s.blockFailed n f) hs target, if_pos direct, frozen] at start
    have kept := frozenUnit_kept u n (s.blockFailed n f)
    have settles := stopMotion_raise_settles (s := (s.blockFailed n f).frozenUnit u n)
      (by rw [kept.wch]; exact phase) (by rw [kept.wch]; rfl) .frozenEntered
    have idle := stopMotion_idle ((s.blockFailed n f).frozenUnit u n) none
    have seq := idle.seq.trans (frozenUnit_seq u n (s.blockFailed n f))
    obtain ⟨motion, dir⟩ := idle.xp
    rw [frozenUnit_xp] at dir
    rw [carryOut, settles] at start
    have host := idle.host.trans kept.host
    have pool := idle.pool.trans kept.pool
    have pos := idle.pos.trans kept.pos
    have stream := idle.stream.trans kept.stream
    have capture := idle.capture.trans kept.capture
    have pending := idle.pending.trans kept.pending
    have wch := idle.wch
    clear settles idle frozen
    generalize (((s.blockFailed n f).frozenUnit u n).stopMotion.hold none).channelIdle = t at *
    exact ⟨_, start, pool, capture, seq, congrArg (HostPort.flagged · .frozenEntered) host, wch,
      motion, dir, pos, stream, pending⟩
  case recovers =>
    intro s u v n d f e c phase deadline unit target verify watch compared taken frame hs hn hl hw ha
      hm hd run permit zone eom bom he hc
    subst he hc
    have missed : Unsensed s u n f v := ⟨unit, target, verify, watch, compared, taken, frame⟩
    have listed : ¬ ((s.blockFailed n f).entry.noRecovery ||
        (s.blockFailed n f).seq.ctl.recLength == 0) = true := by
      show ¬ (s.entry.noRecovery || s.seq.ctl.recLength == 0) = true
      rw [hn, Bool.false_or, beq_iff_eq]
      omega
    have report := exec_unsensed deadline missed (by rw [hs]; nofun)
    rw [writeReport_failed (s := s.blockFailed n f) hs target, if_neg listed] at report
    have after : (s.blockFailed n f).AfterBlock := ⟨phase, rfl, run, hm, hd, permit, zone, eom⟩
    have start : exec .verifyDeadline s = .next ((s.blockFailed n f).recovered u n) := report
    refine ⟨fun g op hb hg => ?retry, fun k op hk => ?erase, fun op => ?spaceRev,
      fun op hcount hlast hr => ?skip⟩
    case retry =>
      obtain ⟨t, w, rest, kept, seq, motion, dir, placed, timer, wtarget, reattempt, tag⟩ :=
        recovered_retry (u := u) (n := n) after ⟨hl, recoveryOp_of_code (by decide) op⟩ hb hg
      obtain ⟨gap, -, gapTimer⟩ := placed.gap g timer
      rw [retried_seq, ← hw] at seq
      have held : (((s.blockFailed n f).slot n).tag) = (s.slot n).tag := by
        show ((s.pool.put n _).get n).tag = _
        rw [Pool.get_put, if_pos rfl]
      generalize (s.blockFailed n f).recovered u n = x at *
      refine ⟨x, w, start, (congrArg State.capture rest).trans kept.capture,
        (congrArg State.pool rest).trans kept.pool,
        (congrArg State.seq rest).trans seq, gap, placed.unit, wtarget, reattempt,
        tag.trans held, gapTimer, placed.egate.trans (by rw [kept.wch]; rfl),
        (congrArg (·.xp.motion) rest).trans motion,
        (congrArg (·.xp.dir) rest).trans dir, (congrArg State.host rest).trans kept.host,
        (congrArg State.pos rest).trans kept.pos,
        (congrArg State.stream rest).trans kept.stream,
        (congrArg State.pending rest).trans kept.pending⟩
    case erase =>
      obtain ⟨t, erases, kept, seq, motion, timing⟩ := recovered_erase (u := u) (n := n) after
        ⟨hl, recoveryOp_of_code (by decide) op⟩ hk
      rw [erases] at start
      rw [recoveryBegun_seq] at seq
      refine ⟨_, start, kept.capture, kept.pool, seq, rfl, ?_, rfl, motion, ?_, kept.host,
        kept.stream, kept.pending⟩
      · exact congrArg (fun x : Timing => some x.eraseLength) timing
      · exact congrArg (fun x : Position => { x with map := x.map.filter fun e => e.1 < k }) kept.pos
    case spaceRev =>
      obtain ⟨z, idle, kept, seq, dir, held⟩ := recovered_spaceRev (u := u) (n := n) after
        ⟨hl, recoveryOp_of_code (by decide) op⟩ bom
      rw [recoveryBegun_seq] at seq
      exact ⟨_, start, idle.capture.trans kept.capture, idle.pool.trans kept.pool,
        idle.seq.trans seq, idle.wch, idle.xp.1, idle.xp.2.trans dir, held, idle.host.trans kept.host,
        idle.pos.trans kept.pos, idle.stream.trans kept.stream, idle.pending.trans kept.pending⟩
    case skip =>
      obtain ⟨r, list, record, pool, wch, motion, pos, stream, capture⟩ := recovered_skip (u := u)
        (n := n) after ⟨hl, recoveryOp_of_code (by decide) op⟩ hcount hlast hr
      exact ⟨_, r, start, capture, pool.trans (blockFailed_hold ha), list, record, wch, motion, pos,
        stream⟩

end Sys2Proof.Machine
end

section
/-! SUPPORT. CONTINUE and RETRY: how the host ends the FROZEN state, and their refusals outside it (R85, R88,
R91, R92). -/

namespace Sys2Proof.Machine

namespace State

variable {s t : State} {n : SlotNo} {u : WUnit} {e : Episode}

/-! ## The two commands by the sequencer state (R91, R92) -/

theorem exec_continue_frozen (h : s.seq.state = .frozen) :
    exec .continueEpisode s = .next (carryOut (s.touch.answer .accepted).skip) :=
  congrArg Host.Outcome.next (if_pos h)

theorem exec_retry_frozen (h : s.seq.state = .frozen) :
    exec .retry s = .next (carryOut (s.touch.answer .accepted).hostRetry) :=
  congrArg Host.Outcome.next (if_pos h)

theorem exec_continue_refused (h : s.seq.state ≠ .frozen) :
    exec .continueEpisode s = .next s.touch.notFrozen := congrArg Host.Outcome.next (if_neg h)

theorem exec_retry_refused (h : s.seq.state ≠ .frozen) :
    exec .retry s = .next s.touch.notFrozen := congrArg Host.Outcome.next (if_neg h)

theorem notFrozen_idle (h : s.seq.state = .idle) :
    s.touch.notFrozen = { s with host := s.host.answered .idleState } := if_pos h

theorem notFrozen_busy (h : s.seq.state ≠ .idle) :
    s.touch.notFrozen = { s with host := s.host.answered .busy } := if_neg h

/-! ## CONTINUE skips the failed unit (R88, R91) -/

/-- Beyond the pool and the sequencer's part, a skip leaves the state as it was. -/
theorem skipped_kept (n : SlotNo) (s : State) : Kept (s.setPool (s.pool.hold n)) (s.skipped n) :=
  have counted : Kept (s.setPool (s.pool.hold n))
      (((s.setPool (s.pool.hold n)).record .skip).setEpisode none) :=
    ⟨rfl, rfl, rfl, rfl, rfl, rfl, rfl⟩
  (counted.trans (kept_setWork .none _)).trans (kept_setWork .none _)

/-- The skip of the last unit of a list's last entry ends the list COMPLETED, whatever the tape does. -/
theorem skip_over (he : s.seq.episode = some e) (hk : e.kind = .write) (hn : e.slot = some n)
    (hc : s.entry.count.toNat = s.seq.record.unitsDone + 1) (hl : s.lastEntry)
    (hr : s.host.results.length < 16) :
    EntryOver (s.skipped n) .done .completed (carryOut s.skip) := by
  have room : (s.skipped n).host.results.length < 16 := by rw [(skipped_kept n s).host]; exact hr
  have last : (s.skipped n).lastEntry := by
    simpa only [State.lastEntry, skipped_seq] using hl
  rw [skip_last he hk hn hc]
  exact endEntry_over room (.lastDone last)

/-! ## RETRY orders one re-attempt (R85, R92) -/

/-- The attempt is counted in the episode and in the entry record, and the budget is not spent. -/
theorem hostAttempt_seq (he : s.seq.episode = some e) : (s.countAttempt false).seq =
    { s.seq with
      episode := some { e with attempts := bump e.attempts }
      record := { s.seq.record with retries := bump s.seq.record.retries } } := by
  have counted : (s.countAttempt false).seq =
      { s.seq with
        episode := s.seq.episode.map fun e => { e with attempts := bump e.attempts }
        record := s.seq.record.retry } := rfl
  rw [counted, he]
  rfl

/-- The failed slot is to be written again by the host's order. -/
def ordered (n : SlotNo) (s : State) : State :=
  ((s.countAttempt false).setSeqState .recovery).setWork (.writeSlot n)

theorem ordered_seq (n : SlotNo) (he : s.seq.episode = some e) : (s.ordered n).seq =
    { s.seq with
      state := .recovery, work := .writeSlot n
      episode := some { e with attempts := bump e.attempts }
      record := { s.seq.record with retries := bump s.seq.record.retries } } := by
  rw [ordered, setWork_seq, State.setSeqState, setSeq_seq, hostAttempt_seq he]

theorem ordered_kept (n : SlotNo) (s : State) : Kept s (s.ordered n) :=
  have counted : Kept s ((s.countAttempt false).setSeqState .recovery) :=
    ⟨rfl, rfl, rfl, rfl, rfl, rfl, rfl⟩
  counted.trans (kept_setWork _ _)

theorem ordered_xp (n : SlotNo) (s : State) :
    ∃ b, (s.ordered n).xp = { s.xp with blankTimer := b } :=
  setWork_xp (.writeSlot n) ((s.countAttempt false).setSeqState .recovery)

/-- The checks of R80 pass for a tape in STOPPED. -/
theorem stepCheck_stopped {a b : Bool} (hm : s.xp.motion = .stopped) (h : s.MayWrite) :
    s.stepCheck a b = none := by
  simp [State.stepCheck, hm, State.writeCheck, h.wpermit, h.zone, h.eom]

/-- A unit that begins as the tape starts is held at the channel in IDLE (R98). -/
theorem placeUnit_starting (hp : s.wch.phase = .idle) (hm : s.xp.motion = .starting) :
    s.placeUnit u = s.channelIdle.holdWork (.write u) := by
  have still : s.xp.runningForward = false := by rw [Transport.runningForward, hm]; rfl
  simp only [State.placeUnit, hp, State.gapOrWait, still, Bool.false_eq_true, if_false]

/-- The re-attempt that the host orders of a tape in STOPPED: forward motion has begun in `t`, and the
unit waits for it at the channel. -/
theorem hostRetry_begins (he : s.seq.episode = some e) (hk : e.kind = .write) (hn : e.slot = some n)
    (hm : s.xp.motion = .stopped) (hw : s.MayWrite) (hp : s.wch.phase = .idle) : ∃ t u,
      s.hostRetry = (t.channelIdle.holdWork (.write u), none) ∧
      ForwardTaken (s.ordered n).takeFramePeriod t ∧ u.target = .slot n ∧ u.reattempt = true ∧
      u.tag = (s.slot n).tag := by
  have kept := ordered_kept n s
  obtain ⟨b, xp⟩ := ordered_xp n s
  have stopped : (s.ordered n).xp.motion = .stopped := by rw [xp]; exact hm
  have counted : (s.countAttempt false).seq.episode =
      some { e with attempts := bump e.attempts } := by rw [hostAttempt_seq he]
  have check : ((s.countAttempt false).setSeqState .recovery).stepCheck true true = none :=
    stepCheck_stopped hm ⟨hw.wpermit, hw.zone, hw.eom⟩
  obtain ⟨t, begins, taken⟩ := beginWriteUnit_taken (s := s.ordered n) ((s.ordered n).slotUnit n true)
    (by rw [xp]; exact hw.eom) (.inl stopped)
  have starts : t.xp.motion = .starting := taken.motion.trans (if_pos stopped)
  have idle : t.wch.phase = .idle := by
    rw [taken.phase]
    exact (congrArg (·.phase) kept.wch).trans hp
  have again : s.hostRetry = State.afterStepRequest
      ((s.ordered n).beginWriteUnit ((s.ordered n).slotUnit n true)).2
      ((s.ordered n).beginWriteUnit ((s.ordered n).slotUnit n true)).1 :=
    reattempt_slot (s := s.countAttempt false) counted hk hn check
  refine ⟨t, { (s.ordered n).slotUnit n true with framePeriod := t.xp.timing.frameDiv }, ?_, taken,
    rfl, rfl, ?_⟩
  · rw [again, begins, placeUnit_starting idle starts]
    rfl
  · show ((s.ordered n).pool.get n).tag = _
    rw [kept.pool]
    rfl

end State

open State in
/-- Settles O36: the refusals outside FROZEN, the skip of the list's last unit, and the re-attempt that
the host orders of a tape at rest. -/
theorem hostEndsTheFrozenState : Obligations.HostEndsTheFrozenState := by
  refine ⟨?idle, ?busy, ?continues, ?retries⟩
  case idle =>
    intro s hs
    have outside : s.seq.state ≠ .frozen := by rw [hs]; nofun
    rw [exec_continue_refused outside, exec_retry_refused outside, notFrozen_idle hs]
    exact ⟨rfl, rfl⟩
  case busy =>
    intro s hi hf
    rw [exec_continue_refused hf, exec_retry_refused hf, notFrozen_busy hi]
    exact ⟨rfl, rfl⟩
  case continues =>
    intro s e n hs he hk hn ha hc hl hr
    have kept := skipped_kept n (s.touch.answer .accepted)
    have seq := skipped_seq n (s.touch.answer .accepted)
    have held : s.pool.hold n = s.pool.put n { s.slot n with state := .held } := if_pos ha
    have ended : EntryOver ((s.touch.answer .accepted).skipped n) .done .completed _ :=
      skip_over he hk hn hc hl hr
    refine ⟨_, ((s.touch.answer .accepted).skipped n).buildResult .done, exec_continue_frozen hs,
      ended.cmdstat.trans (congrArg HostPort.cmdstat kept.host),
      (ended.pool.trans kept.pool).trans held, ?results, rfl, ?record,
      congrArg Sequencer.state ended.seq, congrArg Sequencer.episode ended.seq,
      congrArg Sequencer.endCause ended.seq, by simp [ended.event], ended.capture.trans kept.capture,
      ended.pos.trans kept.pos, ended.stream.trans kept.stream, ended.pending.trans kept.pending⟩
    case results => exact ended.results.trans (congrArg (·.results ++ [_]) kept.host)
    case record => exact (congrArg Sequencer.record seq).trans (skip_record hc)
  case retries =>
    intro s e n hs he hk hn _ hm permit zone eom idle
    have kept := ordered_kept n (s.touch.answer .accepted)
    obtain ⟨b, xp⟩ := ordered_xp n (s.touch.answer .accepted)
    obtain ⟨t, u, begins, taken, target, reattempt, tag⟩ := hostRetry_begins
      (s := s.touch.answer .accepted) he hk hn hm ⟨permit, zone, eom⟩ idle
    have start := exec_retry_frozen hs
    rw [begins] at start
    have stopped : ((s.touch.answer .accepted).ordered n).takeFramePeriod.xp.motion = .stopped := by
      rw [takeFramePeriod_xp, xp]
      exact hm
    refine ⟨_, u, start, taken.host.trans kept.host, taken.seq.trans (ordered_seq n he),
      taken.motion.trans (if_pos stopped), taken.dir, (taken.ramp stopped).trans ?ramp, rfl, rfl,
      target, reattempt, tag, taken.pool.trans kept.pool, taken.pos.trans kept.pos,
      taken.capture.trans kept.capture, taken.stream.trans kept.stream,
      taken.pending.trans kept.pending⟩
    case ramp => rw [takeFramePeriod_xp, xp]; rfl

end Sys2Proof.Machine
end

section
/-! SUPPORT. What every step keeps of the gates: each is on only under the conditions of R97, in a phase
that allows it (R96, R97). -/

namespace Sys2Proof.Machine

variable {a s : State}

/-- A change of the write channel that keeps the gates to their conditions keeps their law. -/
theorem GateStep.keeps_gates {w : WriteChannel} (hw : GateStep s w) (h : s.gatesLawful) :
    (s.setWch w).gatesLawful := by
  obtain ⟨wgate, egate, run⟩ := h
  obtain ⟨wstep, estep, rstep⟩ := hw
  refine ⟨fun on => ?wgate, fun on => ?egate, fun on => ?run⟩
  case wgate =>
    obtain ⟨was, same⟩ | turnsOn := wstep on
    · exact ⟨(wgate was).1, same.trans (wgate was).2⟩
    · exact turnsOn
  case egate =>
    obtain ⟨was, same | allowed⟩ | turnsOn := estep on
    · exact ⟨(egate was).1, same ▸ (egate was).2⟩
    · exact ⟨(egate was).1, allowed⟩
    · exact turnsOn
  case run =>
    obtain on | ⟨was, stays⟩ := rstep on
    · exact on
    · exact stays (run was)

/-- Where a gate is on, a change of the transport leaves what allows it. -/
theorem MotionStep.mayGate {x : Transport} (hx : MotionStep s x)
    (on : s.wch.wgate = true ∨ s.wch.egate = true) (h : s.mayGate = true) :
    (s.setXp x).mayGate = true := by
  obtain ⟨running, permit⟩ := Bool.and_eq_true_iff.mp h
  obtain ⟨woff, eoff⟩ | ⟨runs, permits⟩ := hx.2
  · simp [woff, eoff] at on
  · exact Bool.and_eq_true_iff.mpr ⟨runs running, permits permit⟩

/-- A change of the transport keeps the law of the gates. -/
theorem MotionStep.keeps_gates {x : Transport} (hx : MotionStep s x) (h : s.gatesLawful) :
    (s.setXp x).gatesLawful := by
  obtain ⟨wgate, egate, run⟩ := h
  exact ⟨fun on => ⟨hx.mayGate (.inl on) (wgate on).1, (wgate on).2⟩,
    fun on => ⟨hx.mayGate (.inr on) (egate on).1, (egate on).2⟩, run⟩

/-- Only the changes of the write channel and of the transport, and the pin reset, bear on the gates. -/
theorem Changes.keeps_gates (h : Changes a s) (ha : a.gatesLawful) : s.gatesLawful := by
  induction h with
  | wch _ step ih => exact step.keeps_gates ih
  | xp _ step ih => exact step.keeps_gates ih
  | pinReset => exact ⟨nofun, nofun, nofun⟩
  | _ => assumption

/-- Settles O56: every change that a step can make keeps the law of the gates. -/
theorem gatesStayLawful : Obligations.GatesStayLawful := by
  intro s t h hstep
  obtain ⟨_, changes⟩ := changes_of_step hstep
  exact changes.keeps_gates h

end Sys2Proof.Machine
end

section
/-! SUPPORT. The capture window: the layout of the capture record, CAPPTR's write, and CAPDATA's reads from
one latched moment (R106, R132, R183, R188). -/

namespace Sys2Proof.Machine

/-! ## The capture window (R106, R132, R183, R188) -/

/-- The bytes of a filled record, with the bits of its slot and the row expected taken as numbers. -/
theorem captureBytes_some {c : Capture} {e : Row} {f : Nat} (he : e = c.expected.getD 0)
    (hf : c.slot = none ∧ f = 0 ∨ ∃ n, c.slot = some n ∧ f = 8 + 16 * n.val) :
    captureBytes (some c) =
      (BitVec.ofNat 8 (1 + 2 * c.kind.code + f + 128 * c.expected.isSome.toNat),
        [ BitVec.ofNat 8 (captureClassCode c.cls + 8 * (e.getLsbD 8).toNat +
            16 * (c.strict.getLsbD 8).toNat + 32 * (c.lenient.getLsbD 8).toNat),
          BitVec.ofNat 8 c.index, BitVec.ofNat 8 (c.index / 256), e.setWidth 8,
          c.strict.setWidth 8, c.lenient.setWidth 8 ]) := by
  have slot : f = (c.slot.map (fun n => 8 + 16 * n.val)).getD 0 := by
    obtain ⟨absent, rfl⟩ | ⟨n, present, rfl⟩ := hf
    · rw [absent]; rfl
    · rw [present]; rfl
  rw [slot, he]
  rfl

@[simp] theorem HostPort.stuck_capptr (h : HostPort) (c : Bool) (f : HostFlag) :
    (h.stuck c f).capptr = h.capptr := by
  cases c <;> rfl

theorem State.exec_capptrWrite (b : Byte) (s : State) (p : Fin 7) (hp : p.val = min b.toNat 6) :
    exec (.capptrWrite b) s = .next { s with
      host := ({ s.host.accessed with capptr := p } : HostPort).stuck
        (decide (6 < b.toNat)) .clamped } := by
  have clamped : (⟨min b.toNat 6, by omega⟩ : Fin 7) = p := Fin.ext hp.symm
  show Host.Outcome.next (s.touch.storeCapptr b) = _
  rw [State.storeCapptr, State.stickIf_eq, clamped]
  rfl

/-- CAPDATA at byte 0 drives it and latches the other six. -/
theorem State.exec_capdataRead_first {s : State} (h : s.host.capptr = 0) :
    exec .capdataRead s = .next { s with host :=
      { s.host.drove (captureBytes s.capture).1 with
        capptr := 1, capLatch := .load (captureBytes s.capture).2 } } := by
  have first : s.touch.host.capptr.val = 0 := congrArg Fin.val h
  show Host.Outcome.next s.touch.readCapdata = _
  simp only [State.readCapdata, first, if_true]
  simp only [State.setHost, State.touch, h]
  rfl

/-- CAPDATA at another byte drives the latched one. -/
theorem State.exec_capdataRead_next {s : State} (h : s.host.capptr ≠ 0) :
    exec .capdataRead s = .next { s with host :=
      { s.host.drove (((s.host.capLatch.shown (captureBytes s.capture).2)[
          s.host.capptr.val - 1]?).getD 0) with
        capptr := if s.host.capptr = 6 then 0 else s.host.capptr + 1 } } := by
  have next : s.touch.host.capptr.val ≠ 0 := fun e => h (Fin.ext e)
  have wraps : (if s.host.capptr = 6 then 0 else s.host.capptr + 1) = s.host.capptr + 1 := by
    split
    · next last => rw [last]; rfl
    · rfl
  show Host.Outcome.next s.touch.readCapdata = _
  simp only [State.readCapdata, next, if_false, wraps]
  rfl

/-- Settles O12: the layout, CAPPTR's clamp, and the reads of the window by the place of CAPPTR. -/
theorem captureWindow : Obligations.CaptureWindow := by
  refine ⟨rfl, rfl, fun _ _ _ he hf => captureBytes_some he hf, fun b s => ?stored,
    fun _ => State.exec_capdataRead_first, fun _ => State.exec_capdataRead_next⟩
  case stored =>
    refine ⟨_, State.exec_capptrWrite b s ⟨min b.toNat 6, by omega⟩ rfl, ?_, ?_⟩ <;>
      simp only [HostPort.stuck_capptr]

end Sys2Proof.Machine
end

section
/-! SUPPORT. The file map: what an entry put in its place makes of the map, and the four cases of the
insertion (R143). -/

namespace Sys2Proof.Machine

variable {m : List (Nat × Nat)} {e : Nat × Nat} {f g c n : Nat}

theorem mapWf_iff :
    mapWf m = true ↔ m.length ≤ 16 ∧ m.Pairwise (fun a b => a.1 < b.1) :=
  (Bool.and_eq_true _ _).to_iff.trans (and_congr decide_eq_true_iff decide_eq_true_iff)

theorem mapHolds_of_mem (h : (f, c) ∈ m) : mapHolds m f = true :=
  List.any_eq_true.mpr ⟨_, h, beq_self_eq_true f⟩

theorem mapHolds_eq_false (h : ∀ e ∈ m, e.1 ≠ f) : mapHolds m f = false :=
  List.any_eq_false.mpr (fun e he => by simp [h e he])

/-! ## An entry put in its place -/

/-- In a map in file order, the entry put in its place takes the place of the file's entry alone. -/
theorem mem_mapPlace (h : m.Pairwise (fun a b => a.1 < b.1)) :
    e ∈ mapPlace m f n ↔ e = (f, n) ∨ e ∈ m ∧ e.1 ≠ f := by
  induction m with
  | nil => simp [mapPlace]
  | cons d m ih =>
    obtain ⟨g, c⟩ := d
    obtain ⟨first, rest⟩ := List.pairwise_cons.mp h
    have above : e ∈ m → g < e.1 := first e
    have top : e = (g, c) → e.1 = g := fun same => same ▸ rfl
    unfold mapPlace
    split
    · next below =>
      have apart : e ∈ (g, c) :: m → e.1 ≠ f := fun he => by
        rcases List.mem_cons.mp he with he | he
        · exact (top he ▸ below).ne'
        · exact (below.trans (above he)).ne'
      rw [List.mem_cons, and_iff_left_of_imp apart]
    · split
      · next same =>
        have apart : e ∈ m → e.1 ≠ f := fun he => same ▸ (above he).ne'
        simp only [List.mem_cons]
        grind
      · next differ =>
        have apart : e = (g, c) → e.1 ≠ f := fun he => top he ▸ Ne.symm differ
        simp only [List.mem_cons, ih rest]
        grind

theorem mapPlace_ordered (h : m.Pairwise (fun a b => a.1 < b.1)) :
    (mapPlace m f n).Pairwise (fun a b => a.1 < b.1) := by
  induction m with
  | nil => exact List.pairwise_singleton _ _
  | cons d m ih =>
    obtain ⟨g, c⟩ := d
    obtain ⟨first, rest⟩ := List.pairwise_cons.mp h
    unfold mapPlace
    split
    · next below =>
      refine List.pairwise_cons.mpr ⟨fun e he => ?_, h⟩
      rcases List.mem_cons.mp he with rfl | he
      · exact below
      · exact below.trans (first e he)
    · split
      · next same => exact List.pairwise_cons.mpr ⟨same ▸ first, rest⟩
      · refine List.pairwise_cons.mpr ⟨fun e he => ?_, ih rest⟩
        rcases (mem_mapPlace rest).mp he with rfl | ⟨he, -⟩
        · show g < f
          omega
        · exact first e he

theorem length_mapPlace_of_not_mem (h : ∀ e ∈ m, e.1 ≠ f) :
    (mapPlace m f n).length = m.length + 1 := by
  induction m with
  | nil => rfl
  | cons d m ih =>
    obtain ⟨g, c⟩ := d
    obtain ⟨first, rest⟩ := List.forall_mem_cons.mp h
    unfold mapPlace
    split
    · rfl
    · rw [if_neg (Ne.symm first), List.length_cons, ih rest, List.length_cons]

theorem length_mapPlace_of_mem (h : m.Pairwise (fun a b => a.1 < b.1)) (hf : (f, c) ∈ m) :
    (mapPlace m f n).length = m.length := by
  induction m with
  | nil => cases hf
  | cons d m ih =>
    obtain ⟨g, b⟩ := d
    obtain ⟨first, rest⟩ := List.pairwise_cons.mp h
    unfold mapPlace
    rcases List.mem_cons.mp hf with top | later
    · obtain ⟨rfl, rfl⟩ := Prod.mk.inj top
      rw [if_neg (lt_irrefl f), if_pos rfl, List.length_cons, List.length_cons]
    · have above : g < f := first _ later
      rw [if_neg above.not_gt, if_neg above.ne', List.length_cons, ih rest later, List.length_cons]

/-! ## The four cases of the insertion (R143) -/

theorem mapInsert_of_mem (h : (f, c) ∈ m) : mapInsert m f n = mapPlace m f n := by
  unfold mapInsert
  exact if_pos (by rw [mapHolds_of_mem h, Bool.true_or])

theorem mapInsert_of_room (h : m.length < 16) : mapInsert m f n = mapPlace m f n :=
  if_pos (by simp [Config.mapRoom, h])

theorem mapInsert_of_full {q : List (Nat × Nat)} (hf : ∀ e ∈ (g, c) :: q, e.1 ≠ f)
    (hl : ((g, c) :: q).length = 16) :
    mapInsert ((g, c) :: q) f n = if g < f then mapPlace q f n else (g, c) :: q := by
  unfold mapInsert
  exact if_neg (by simp [mapHolds_eq_false hf, hl, Config.mapRoom])

/-- A full map gives up its lowest entry for a higher file that it does not hold. -/
theorem mapInsert_full_above {q : List (Nat × Nat)} (hf : ∀ e ∈ (g, c) :: q, e.1 ≠ f)
    (hl : ((g, c) :: q).length = 16) (h : g < f) : mapInsert ((g, c) :: q) f n = mapPlace q f n := by
  rw [mapInsert_of_full hf hl, if_pos h]

/-- A full map of higher files stays as it is. -/
theorem mapInsert_full_below (hl : m.length = 16) (h : ∀ e ∈ m, f < e.1) : mapInsert m f n = m := by
  cases m with
  | nil => cases hl
  | cons d q =>
    rw [mapInsert_of_full (fun e he => (h e he).ne') hl, if_neg (h d List.mem_cons_self).not_gt]

/-- Every map as R143 has it meets one of the four cases. -/
theorem mapWf_cases (h : mapWf m = true) (f : Nat) :
    (∃ c, (f, c) ∈ m) ∨ ((∀ e ∈ m, e.1 ≠ f) ∧ m.length < 16) ∨
      (∃ g c q, m = (g, c) :: q ∧ (∀ e ∈ m, e.1 ≠ f) ∧ m.length = 16 ∧ g < f) ∨
        ((∀ e ∈ m, f < e.1) ∧ m.length = 16) := by
  obtain ⟨most, order⟩ := mapWf_iff.mp h
  by_cases held : ∃ c, (f, c) ∈ m
  · exact .inl held
  have absent : ∀ e ∈ m, e.1 ≠ f := fun e he same => held ⟨e.2, same ▸ he⟩
  rcases most.lt_or_eq with room | full
  · exact .inr (.inl ⟨absent, room⟩)
  cases m with
  | nil => cases full
  | cons d q =>
    obtain ⟨first, -⟩ := List.pairwise_cons.mp order
    rcases (absent d List.mem_cons_self).lt_or_gt with above | below
    · exact .inr (.inr (.inl ⟨d.1, d.2, q, rfl, absent, full, above⟩))
    · refine .inr (.inr (.inr ⟨List.forall_mem_cons.mpr ⟨below, fun e he => ?_⟩, full⟩))
      exact below.trans (first e he)

/-- The insertion keeps file order and the bound of 16 entries. -/
theorem mapWf_mapInsert (h : mapWf m = true) : mapWf (mapInsert m f n) = true := by
  obtain ⟨most, order⟩ := mapWf_iff.mp h
  obtain ⟨c, held⟩ | ⟨absent, room⟩ | ⟨g, c, q, rfl, absent, full, above⟩ | ⟨below, full⟩ :=
    mapWf_cases h f
  · rw [mapInsert_of_mem held, mapWf_iff, length_mapPlace_of_mem order held]
    exact ⟨most, mapPlace_ordered order⟩
  · rw [mapInsert_of_room room, mapWf_iff, length_mapPlace_of_not_mem absent]
    exact ⟨room, mapPlace_ordered order⟩
  · rw [mapInsert_full_above absent full above, mapWf_iff,
      length_mapPlace_of_not_mem (List.forall_mem_cons.mp absent).2]
    exact ⟨full.le, mapPlace_ordered order.of_cons⟩
  · rwa [mapInsert_full_below full below]

/-- The insertion brings in no entry but the one inserted. -/
theorem mem_of_mem_mapInsert (h : mapWf m = true) (he : e ∈ mapInsert m f n) :
    e = (f, n) ∨ e ∈ m := by
  obtain ⟨-, order⟩ := mapWf_iff.mp h
  obtain ⟨c, held⟩ | ⟨-, room⟩ | ⟨g, c, q, rfl, absent, full, above⟩ | ⟨below, full⟩ :=
    mapWf_cases h f
  · rw [mapInsert_of_mem held, mem_mapPlace order] at he
    exact he.imp_right And.left
  · rw [mapInsert_of_room room, mem_mapPlace order] at he
    exact he.imp_right And.left
  · rw [mapInsert_full_above absent full above, mem_mapPlace order.of_cons] at he
    exact he.imp_right (fun he => List.mem_cons_of_mem _ he.1)
  · rw [mapInsert_full_below full below] at he
    exact .inr he

/-- Settles O48: each case of R143 puts the entry in its place in the map, in its rest, or nowhere. -/
theorem fileMapInsertion : Obligations.FileMapInsertion := by
  intro m f n h
  obtain ⟨-, order⟩ := mapWf_iff.mp h
  refine ⟨mapWf_mapInsert h, ?held, ?room, ?above, fun below full => mapInsert_full_below full below⟩
  case held =>
    rintro ⟨c, held⟩
    rw [mapInsert_of_mem held]
    refine ⟨(mem_mapPlace order).mpr (.inl rfl), length_mapPlace_of_mem order held, fun e other => ?_⟩
    have new : e ≠ (f, n) := fun same => other (same ▸ rfl)
    simp [mem_mapPlace order, new, other]
  case room =>
    intro absent room e
    rw [mapInsert_of_room room, mem_mapPlace order, and_iff_left_of_imp (absent e)]
  case above =>
    rintro g c q rfl absent full above e
    rw [mapInsert_full_above absent full above, mem_mapPlace order.of_cons,
      and_iff_left_of_imp ((List.forall_mem_cons.mp absent).2 e)]

end Sys2Proof.Machine
end

section
/-! SUPPORT. The position tracker: what every step keeps of the position record and the file map, and the
reports of reverse motion (R135 to R147). -/

namespace Sys2Proof.Machine

/-! ## The law of the file map (R135, R143) -/

/-- The file map is as R143 has it, and no number in it is over the greatest of R135. -/
def MapLawful (m : List (Nat × Nat)) : Prop :=
  mapWf m = true ∧ ∀ e ∈ m, e.1 ≤ Config.positionMax ∧ e.2 ≤ Config.positionMax

theorem MapLawful.nil : MapLawful [] := ⟨rfl, nofun⟩

section

variable {m : List (Nat × Nat)} {f n : Nat}

theorem MapLawful.truncate (h : MapLawful m) : MapLawful (mapTruncate m f) := by
  obtain ⟨most, order⟩ := mapWf_iff.mp h.1
  exact ⟨mapWf_iff.mpr ⟨(List.length_filter_le _ _).trans most, order.filter _⟩,
    fun e he => h.2 e (List.mem_of_mem_filter he)⟩

theorem MapLawful.insert (h : MapLawful m) (hf : f ≤ Config.positionMax)
    (hn : n ≤ Config.positionMax) : MapLawful (mapInsert m f n) := by
  refine ⟨mapWf_mapInsert h.1, fun e he => ?_⟩
  rcases mem_of_mem_mapInsert h.1 he with rfl | old
  · exact ⟨hf, hn⟩
  · exact h.2 e old

theorem mem_of_mapLookup (h : mapLookup m f = some n) : (f, n) ∈ m := by
  obtain ⟨e, found, rfl⟩ := Option.map_eq_some_iff.mp h
  have same : e.1 = f := by simpa using List.find?_some found
  exact same ▸ List.mem_of_find?_eq_some found

/-- In a map in file order, a file's count is that of its one entry. -/
theorem mapLookup_of_mem (order : m.Pairwise (fun a b => a.1 < b.1)) (h : (f, n) ∈ m) :
    mapLookup m f = some n := by
  unfold mapLookup
  induction m with
  | nil => cases h
  | cons d m ih =>
    obtain ⟨first, rest⟩ := List.pairwise_cons.mp order
    rcases List.mem_cons.mp h with rfl | later
    · rw [List.find?_cons_of_pos (by simp)]
      rfl
    · have below : d.1 < f := first _ later
      rw [List.find?_cons_of_neg (by simp [below.ne]), ih rest later]

theorem MapLawful.lookup (h : MapLawful m) : numberLawful (mapLookup m f) :=
  fun _ hk => (h.2 _ (mem_of_mapLookup hk)).2

end

/-! ## The law of the position record (R135) -/

theorem numberLawful_none : numberLawful none := nofun

theorem numberLawful_zero : numberLawful (some 0) := by
  rintro k ⟨⟩
  exact Nat.zero_le _

theorem numberLawful_blockUp {b : Option Nat} : numberLawful (blockUp b) := by
  intro k hk
  obtain ⟨n, -, up⟩ := Option.bind_eq_some_iff.mp hk
  split at up
  · next room =>
    cases up
    exact room
  · cases up

theorem numberLawful_blockDown {b : Option Nat} (h : numberLawful b) :
    numberLawful (blockDown b) := by
  intro k hk
  obtain ⟨n, hn, down⟩ := Option.bind_eq_some_iff.mp hk
  split at down
  · cases down
    exact (Nat.sub_le n 1).trans (h n hn)
  · cases down

namespace Position.lawful

variable {p : Position} {f : Nat}

theorem mapLawful (h : p.lawful) : MapLawful p.map := by
  obtain ⟨-, -, -, -, map⟩ := h
  exact map

theorem block (h : p.lawful) : numberLawful p.block := by
  obtain ⟨-, -, -, block, -⟩ := h
  exact block

/-- Outside UNKNOWN the file is present. -/
theorem file (h : p.lawful) (hz : p.zone ≠ .unknown) :
    ∃ f, p.file = some f ∧ f ≤ Config.positionMax := by
  obtain ⟨zone, -, file, -⟩ := h
  obtain ⟨f, hf⟩ := Option.ne_none_iff_exists'.mp (mt zone.mpr hz)
  exact ⟨f, hf, file f hf⟩

/-- A record outside UNKNOWN with its file. -/
theorem known (hz : p.zone ≠ .unknown) (hf : p.file = some f) (hn : f ≤ Config.positionMax)
    (hb : numberLawful p.block) (hm : MapLawful p.map) : p.lawful := by
  refine ⟨by simp [hz, hf], by simp [hf], fun k hk => ?_, hb, hm⟩
  rw [hf] at hk
  exact Option.mem_some.mp hk ▸ hn

theorem lost (hm : MapLawful p.map) : p.lost.lawful :=
  ⟨iff_of_true rfl rfl, fun _ => rfl, numberLawful_none, numberLawful_none, hm⟩

theorem bomReached (h : p.lawful) : p.bomReached.lawful :=
  known (f := 0) nofun rfl (Nat.zero_le _) numberLawful_zero h.mapLawful

theorem edge (h : p.lawful) (z : Zone) : (p.edge z).lawful := by
  unfold Position.edge
  split
  · exact h
  · next zones =>
    obtain ⟨hz, new⟩ := not_or.mp zones
    obtain ⟨f, hf, hn⟩ := h.file hz
    exact known new hf hn h.block h.mapLawful

/-- A truncation leaves everything but the map, and the map lawful. -/
theorem truncate_eq (h : p.lawful) : ∃ m, p.truncate = { p with map := m } ∧ MapLawful m := by
  unfold Position.truncate
  split
  · exact ⟨p.map, rfl, h.mapLawful⟩
  · exact ⟨_, rfl, h.mapLawful.truncate⟩

/-- So does what a report does with the map of a block or mark, written or detected. -/
theorem report_eq (h : p.lawful) (written : Bool) :
    ∃ m, (if written then p.truncate else p) = { p with map := m } ∧ MapLawful m := by
  cases written
  · exact ⟨p.map, rfl, h.mapLawful⟩
  · exact h.truncate_eq

theorem erasingBegun (h : p.lawful) : p.erasingBegun.lawful := by
  unfold Position.erasingBegun
  split
  · exact h
  · next hz =>
    obtain ⟨f, hf, hn⟩ := h.file hz
    obtain ⟨m, eq, hm⟩ := h.truncate_eq
    exact eq ▸ known hz hf hn h.block hm

theorem forwardBlock (h : p.lawful) (written : Bool) : (p.forwardBlock written).lawful := by
  unfold Position.forwardBlock
  split
  · exact h
  · next hz =>
    obtain ⟨f, hf, hn⟩ := h.file hz
    obtain ⟨m, eq, hm⟩ := h.report_eq written
    rw [eq]
    exact known hz hf hn numberLawful_blockUp hm

/-- A forward mark enters the file it ends in the map, where the count is known, and begins the next
file; after file 65,535 the position is lost (R140). -/
theorem forwardMark_eq (h : p.lawful) (hz : p.zone ≠ .unknown) (hf : p.file = some f)
    (written : Bool) :
    ∃ m, MapLawful m ∧ p.forwardMark written =
      if f < Config.positionMax then
        { p with file := some (f + 1), block := some 0, map := m }
      else { p with map := m }.lost := by
  obtain ⟨m, eq, hm⟩ := h.report_eq written
  obtain ⟨g, hg, hn⟩ := h.file hz
  obtain rfl : f = g := Option.some.inj (hf.symm.trans hg)
  cases hb : p.block with
  | none =>
    refine ⟨m, hm, ?_⟩
    simp [Position.forwardMark, hz, hf, eq, hb]
  | some b =>
    refine ⟨mapInsert m f b, hm.insert hn (h.block b hb), ?_⟩
    simp [Position.forwardMark, hz, hf, eq, hb]

theorem forwardMark (h : p.lawful) (written : Bool) : (p.forwardMark written).lawful := by
  by_cases hz : p.zone = .unknown
  · rwa [Position.forwardMark, if_pos hz]
  · obtain ⟨f, hf, hn⟩ := h.file hz
    obtain ⟨m, hm, eq⟩ := h.forwardMark_eq hz hf written
    rw [eq]
    split
    · next room => exact known hz rfl room numberLawful_zero hm
    · exact lost hm

theorem reverseBlock (h : p.lawful) : p.reverseBlock.lawful := by
  unfold Position.reverseBlock
  split
  · exact h
  · next zones =>
    obtain ⟨hz, -⟩ := not_or.mp zones
    obtain ⟨f, hf, hn⟩ := h.file hz
    exact known hz hf hn (numberLawful_blockDown h.block) h.mapLawful

theorem reverseMark (h : p.lawful) : p.reverseMark.lawful := by
  unfold Position.reverseMark
  split
  · exact h
  · next zones =>
    obtain ⟨hz, -⟩ := not_or.mp zones
    split
    · exact h
    · exact lost h.mapLawful
    · next f hf =>
      obtain ⟨g, hg, hn⟩ := h.file hz
      obtain rfl : f + 1 = g := Option.some.inj (hf.symm.trans hg)
      exact known hz rfl (Nat.le_of_succ_le hn) h.mapLawful.lookup h.mapLawful

end Position.lawful

/-- Every change of the position tracker keeps the law. -/
theorem PosStep.keeps_lawful {p q : Position} (step : PosStep p q) (h : p.lawful) : q.lawful := by
  cases step with
  | lost => exact .lost h.mapLawful
  | bomReached => exact h.bomReached
  | edge z => exact h.edge z
  | forward written k =>
    cases k with
    | data => exact h.forwardBlock written
    | mark => exact h.forwardMark written
  | reverse k =>
    cases k with
    | data => exact h.reverseBlock
    | mark => exact h.reverseMark
  | erasingBegun => exact h.erasingBegun
  | cartridgeGone =>
    exact .lost (p := { p with map := [] }) MapLawful.nil

theorem Changes.keeps_position {a s : State} (h : Changes a s) (ha : a.pos.lawful) :
    s.pos.lawful := by
  induction h with
  | pos _ step ih => exact step.keeps_lawful ih
  | pinReset => exact resetStateIsLawful.position
  | _ => assumption

/-- Settles O58: every change of the position tracker that a step can make keeps the law. -/
theorem positionStaysLawful : Obligations.PositionStaysLawful := by
  intro s t h hstep
  obtain ⟨_, changes⟩ := changes_of_step hstep
  exact changes.keeps_position h

/-! ## Reverse reports (R141, R142) -/

theorem reverseReport_data {p : Position} (hu : p.zone ≠ .unknown) (hb : p.zone ≠ .atBom) :
    Position.reverseReport .data p = { p with block := blockDown p.block } :=
  if_neg (not_or.mpr ⟨hu, hb⟩)

theorem reverseReport_atBom {p : Position} (h : p.zone = .atBom) (k : BlockKind) :
    Position.reverseReport k p = p := by
  cases k <;> exact if_pos (.inr h)

/-- A mark report from file 0 loses the position; from another, the file is one less, with its count
from the map. -/
theorem reverseReport_mark {p : Position} {f : Nat} (hu : p.zone ≠ .unknown) (hb : p.zone ≠ .atBom)
    (hf : p.file = some f) : Position.reverseReport .mark p =
      if f = 0 then p.lost else { p with file := some (f - 1), block := mapLookup p.map (f - 1) } := by
  simp only [Position.reverseReport, Position.reverseMark, hu, hb, or_self, if_false, hf]
  cases f <;> rfl

/-- Block reports in reverse never make an absent block known. -/
theorem reverseReport_data_absent {p : Position} (h : p.block = none) :
    (Position.reverseReport .data p).block = none := by
  show p.reverseBlock.block = none
  unfold Position.reverseBlock
  split
  · exact h
  · exact congrArg blockDown h

/-- A burst in reverse is detected bare, and its judgment leaves the position. -/
theorem judgeBurst_reverse_pos (how : BurstEnd) (k : BlockKind) (s : State) :
    (s.judgeBurst how k .reverse).1.pos = s.pos := by
  have bare : s.judgeBurst how k .reverse = s.detectBare how k .reverse :=
    if_neg (fun h => nomatch h.2.1)
  rw [bare, State.detectBare]
  split
  · cases s.rch.target <;> rfl
  · rfl

/-- The remainder of a block cut in forward motion is reported as a block in reverse (R119). -/
theorem endBurst_remainder_pos {s : State} (hd : s.xp.dir = .reverse)
    (hs : s.rch.straddle = some (.data, .forward)) :
    (s.endBurst .silence).1.pos = Position.reverseReport .data s.pos := by
  have remainder : s.rch.remainder .reverse = some .data := by
    simp [ReadChannel.remainder, hs]
  simp only [State.endBurst, hd, remainder, Option.orElse]
  split <;> simp only [State.startBlank_pos, State.onPos_pos, State.setRch_pos,
    judgeBurst_reverse_pos] <;> rfl

/-- Settles O47: the reports by the tracker's equations, and the remainder of a cut block. -/
theorem reverseReports : Obligations.ReverseReports := by
  refine ⟨?counted, ?absent, fun p h => reverseReport_atBom h .data,
    fun s hd hs => endBurst_remainder_pos hd hs, ?lost, ?fileBack,
    fun p h => reverseReport_atBom h .mark, fun p absent => ⟨?stays, rfl, ?mark⟩⟩
  case counted =>
    intro p hu hb b block
    rw [reverseReport_data hu hb, block]
    rfl
  case absent =>
    intro p hu hb block
    rw [reverseReport_data hu hb]
    rcases block with block | block <;> rw [block] <;> rfl
  case lost =>
    intro p hu hb file
    exact reverseReport_mark hu hb file
  case fileBack =>
    intro p f hu hb file order
    exact ⟨_, reverseReport_mark hu hb file, fun n =>
      ⟨mem_of_mapLookup, mapLookup_of_mem (mapWf_iff.mp order).2⟩⟩
  case stays =>
    intro k
    induction k with
    | zero => exact absent
    | succ k ih => exact reverseReport_data_absent ih
  case mark =>
    intro f hu file room
    simp [Position.forwardReport, Position.forwardMark, hu, file, absent, room, Config.positionMax]

end Sys2Proof.Machine
end

section
/-! SUPPORT. The timing table through its two registers, and the transport's follow-on steps (R151 to R154,
R157, R158, R161). -/

namespace Sys2Proof.Machine

/-! ## The timing table (R151, R152) -/

/-- TIMPTR advances from 9 to 0. -/
theorem timptr_next (p : Fin 10) :
    p + 1 = if h : p.val < 9 then ⟨p.val + 1, by omega⟩ else 0 := by
  revert p
  decide

/-- A value is clamped where it lies outside the entry's range. -/
theorem timingClamp_differs (i : Fin 10) (b : Byte) :
    (timingClamp i b != b) = decide (b < timingLeast i ∨ timingGreatest i < b) := by
  obtain ⟨least, greatest⟩ := timingClamp_range i b
  rw [Bool.eq_iff_iff, bne_iff_ne, decide_eq_true_eq]
  constructor
  · intro differs
    by_contra inRange
    obtain ⟨low, high⟩ := not_or.mp inRange
    exact differs (by rw [timingClamp, if_neg low, if_neg high])
  · intro out same
    rw [same] at least greatest
    exact out.elim (BitVec.not_lt.mpr least) (BitVec.not_lt.mpr greatest)

namespace State

variable {s : State} {b : Byte}

theorem exec_timptrWrite (b : Byte) (s : State) : exec (.timptrWrite b) s = .next { s with
    xp := { s.xp with timptr := ⟨min b.toNat 9, by omega⟩ }
    host := s.host.accessed.stuck (decide (9 < b.toNat)) .clamped } := by
  show Host.Outcome.next (s.touch.storeTimptr b) = _
  rw [State.storeTimptr, State.stickIf_eq]
  rfl

theorem exec_timdataRead (s : State) : exec .timdataRead s = .next { s with
    xp := { s.xp with timptr := s.xp.timptr + 1 }
    host := s.host.drove (s.xp.timing.get s.xp.timptr) } := rfl

/-- In IDLE the clamped value is stored, and CLAMPED tells that it was clamped. -/
theorem exec_timdataWrite_idle (h : s.seq.state = .idle) :
    exec (.timdataWrite b) s = .next { s with
      xp := { s.xp with
        timing := s.xp.timing.set s.xp.timptr (timingClamp s.xp.timptr b)
        timptr := s.xp.timptr + 1 }
      host := s.host.accessed.stuck
        (decide (b < timingLeast s.xp.timptr ∨ timingGreatest s.xp.timptr < b)) .clamped } := by
  have idle : s.touch.seq.state = .idle := h
  show Host.Outcome.next (s.touch.storeTimdata b) = _
  rw [← timingClamp_differs, State.storeTimdata, if_pos idle, State.stickIf_eq]
  rfl

theorem exec_timdataWrite_locked (h : s.seq.state ≠ .idle) :
    exec (.timdataWrite b) s = .next { s with
      xp := { s.xp with timptr := s.xp.timptr + 1 }
      host := s.host.accessed.stuck true .listLocked } :=
  congrArg Host.Outcome.next (if_neg (by exact h))

end State

open State in
/-- Settles O17: each access by its effect, the entry stored and the others as they were, and the ranges. -/
theorem timingTableAccess : Obligations.TimingTableAccess := by
  refine ⟨fun b s => ⟨_, exec_timptrWrite b s, rfl, rfl⟩, fun s => ?read, fun b s h => ?stored,
    fun b s h => ?locked, ⟨rfl, rfl⟩, fun s => exec_otherRegisterRead (by simp [registerBytes])⟩
  case read =>
    rw [← timptr_next]
    exact exec_timdataRead s
  case stored =>
    rw [← timptr_next]
    exact ⟨_, exec_timdataWrite_idle h, rfl, (Timing.get_set _ _ _ _).trans (if_pos rfl),
      fun i other => (Timing.get_set _ _ _ _).trans (if_neg other)⟩
  case locked =>
    rw [← timptr_next]
    exact exec_timdataWrite_locked h

/-! ## Held requests (R153, R154, R158) -/

namespace State

variable {s : State} {d : Dir}

/-- In STARTING the idle report is kept or deferred. -/
theorem idleReport_starting_xp (hm : s.xp.motion = .starting) :
    ∃ k l, s.idleReport.xp = { s.xp with keptIdle := k, deferred := l } := by
  unfold State.idleReport State.defer State.takeIdle
  rw [hm]
  split
  · split <;> exact ⟨_, _, rfl⟩
  · exact ⟨_, _, rfl⟩

/-- From `s`, a tape at rest has begun in `t` to move by its start ramp, with nothing held. -/
structure RampBegun (d : Dir) (s t : State) : Prop where
  motion : t.xp.motion = .starting
  dir : t.xp.dir = d
  held : t.xp.held = none
  ramp : t.xp.rampTimer = some s.xp.timing.startRamp
  seq : t.seq = s.seq
  pool : t.pool = s.pool
  pos : t.pos = s.pos
  host : t.host = s.host
  stream : t.stream = s.stream
  pending : t.pending = s.pending

theorem startMotion_rampBegun (d : Dir) (s : State) :
    RampBegun d s ((s.hold none).startMotion d) := by
  constructor <;> simp [startMotion_xp, State.hold]

/-- The idle report of a sequencer that waits leaves the ramp as it began. -/
theorem RampBegun.heldAnswer {t : State} (h : RampBegun d s t) (r : HeldRequest) :
    RampBegun d s (t.heldAnswer r .taken) := by
  unfold State.heldAnswer
  dsimp only
  split
  · obtain ⟨k, l, xp⟩ := idleReport_starting_xp h.motion
    constructor <;> simp [xp, h.motion, h.dir, h.held, h.ramp, h.seq, h.pool, h.pos, h.host, h.stream,
      h.pending]
  · exact h

/-- In STOPPED, with no eject phase to come, a held FORWARD or REVERSE starts the tape. -/
theorem exec_heldRequestAnswered_dir (hm : s.xp.motion = .stopped) (hh : s.xp.held = some (.dir d))
    (hu : s.xp.unloadInd = false) (hf : d = .forward → s.xp.levels.eom = false)
    (hr : d = .reverse → s.xp.levels.bom = false) : exec .heldRequestAnswered s =
      .next (((s.hold none).startMotion d).heldAnswer (.dir d) .taken) := by
  have rest : s.xp.atRest = true ∧ s.xp.unloadInd = false := ⟨by rw [Transport.atRest, hm], hu⟩
  have taken : (s.hold none).request (.dir d) = ((s.hold none).startMotion d, .taken) :=
    requestDir_stopped (s := s.hold none) hm hf hr
  show execHeldRequestAnswered s = _
  simp only [execHeldRequestAnswered, if_pos rest, State.answerHeld, hh, taken]

/-! ## Deferred requests and the kept idle report (R154, R157) -/

/-- A deferred STOP stops the tape by its ramp once the channel has left BLOCK. -/
theorem takeDeferred_stop (hd : s.xp.deferred = [.stop]) (hp : s.wch.phase ≠ .block)
    (hm : s.xp.motion = .running) :
    s.takeDeferred = ((s.setDeferred []).stopMotion).hold none := by
  rw [State.takeDeferred, if_neg hp, hd]
  exact takeStop_moving (s := s.setDeferred []) (by simp [hm])

theorem takeDeferred_nil (h : s.xp.deferred = []) : s.takeDeferred = s := by
  have same : s.setDeferred [] = s := by rw [← h]; rfl
  rw [State.takeDeferred, h, same]
  exact ite_self s

theorem exec_keptIdleReportTaken_running (hm : s.xp.motion = .running)
    (hk : s.xp.keptIdle = true) : exec .keptIdleReportTaken s =
      .next (s.setXp { s.xp with keptIdle := false }).takeIdle :=
  congrArg Host.Outcome.next (if_pos ⟨hm, hk⟩)

/-! ## The eject phase (R118, R129, R161) -/

/-- The eject phase begins with the tag memory EMPTY and no straddle. -/
theorem beginEject_rch (s : State) :
    s.beginEject.rch = { s.rch with tagMem := none, straddle := none } := by
  simp [State.beginEject, State.enterMotion, State.dropGates, State.forgetTags, State.clearStraddle]

theorem exec_ejectPhaseBegin_stopped (hm : s.xp.motion = .stopped) (hu : s.xp.unloadInd = true) :
    exec .ejectPhaseBegin s = .next s.beginEject :=
  congrArg Host.Outcome.next (if_pos ⟨hm, hu⟩)

end State

open State in
/-- Settles O55: what each follow-on step begins, and that without its cause it changes nothing. -/
theorem transportFollowOnSteps : Obligations.TransportFollowOnSteps := by
  refine ⟨?held, ?deferred, ?kept, ?eject, ?none⟩
  case held =>
    intro s d hm hh hu hf hr
    have begun := (startMotion_rampBegun d s).heldAnswer (.dir d)
    exact ⟨_, exec_heldRequestAnswered_dir hm hh hu hf hr, begun.motion, begun.dir, begun.held,
      begun.ramp, begun.seq, begun.pool, begun.pos, begun.host, begun.stream, begun.pending⟩
  case deferred =>
    intro s hd hp hm
    refine ⟨_, congrArg Host.Outcome.next (takeDeferred_stop hd hp hm), ?_⟩
    simp [stopMotion_xp, State.hold]
  case kept =>
    intro s hm hk hl hz
    rw [exec_keptIdleReportTaken_running hm hk, takeIdle_running (by exact hm) (by exact hl)
      (by exact hz)]
    rfl
  case eject =>
    intro s hm hu
    refine ⟨_, exec_ejectPhaseBegin_stopped hm hu, ?_⟩
    simp [beginEject_xp, beginEject_rch, Transport.unloadLine]
  case none =>
    intro s hh hd hk hu
    have held : execHeldRequestAnswered s = .next s := by
      simp [execHeldRequestAnswered, State.answerHeld, hh]
    have kept : execKeptIdleReportTaken s = .next s := by simp [execKeptIdleReportTaken, hk]
    have eject : execEjectPhaseBegin s = .next s := by simp [execEjectPhaseBegin, hu]
    exact ⟨held, congrArg Host.Outcome.next (takeDeferred_nil hd), kept, eject⟩

end Sys2Proof.Machine
end

section
/-! SUPPORT. Rising edges of SCLK, word intervals and the settings of the stream port (R168, R170 to R174). -/

namespace Sys2Proof.Machine

/-! ## Rising edges of SCLK (R171 to R173) -/

/-- In MASTER mode SFRM is high at the first edge of an interval. -/
theorem StreamPort.sfrmOut_iff {p : StreamPort} (ho : p.state ≠ .off) (hm : p.master = true) :
    p.sfrmOut = true ↔ p.edges = 0 := by
  constructor
  · intro high
    exact eq_of_beq (Bool.and_eq_true_iff.mp high).2
  · exact fun first => (StreamPort.pacing hm ho first).2

namespace State

variable {s : State} {b f : Bool}

theorem exec_sclkRisingEdge_master (ho : s.stream.state ≠ .off) (hm : s.stream.master = true) :
    exec (.sclkRisingEdge f b) s = .next (s.masterEdge b) :=
  congrArg Host.Outcome.next ((if_neg ho).trans (if_pos hm))

theorem exec_sclkRisingEdge_slave (ho : s.stream.state ≠ .off) (hm : s.stream.master = false) :
    exec (.sclkRisingEdge f b) s = .next (s.slaveEdge f b) :=
  congrArg Host.Outcome.next ((if_neg ho).trans (if_neg (by simp [hm])))

/-- A bit that does not complete the word joins it. -/
theorem addBit_partial (hb : s.stream.bits.length < 15) :
    s.addBit b = s.setBits (s.stream.bits ++ [b]) :=
  if_pos (by simp only [List.length_append, List.length_singleton]; omega)

theorem masterEdge_first (ho : s.stream.state ≠ .off) (hm : s.stream.master = true)
    (he : s.stream.edges = 0) :
    s.masterEdge b = s.setStream { s.stream with bits := [b], edges := 1 } := by
  have high : s.stream.sfrmOut = true := (StreamPort.sfrmOut_iff ho hm).mpr he
  simp only [masterEdge, he, high, if_true]
  rfl

theorem masterEdge_later (ho : s.stream.state ≠ .off) (hm : s.stream.master = true)
    (h0 : 0 < s.stream.edges) (h16 : s.stream.edges < 16) :
    s.masterEdge b = (s.setStream { s.stream with edges := s.stream.edges + 1 }).addBit b := by
  have low : ¬ s.stream.sfrmOut = true := fun high =>
    absurd ((StreamPort.sfrmOut_iff ho hm).mp high) (Nat.ne_of_gt h0)
  rw [masterEdge, if_neg (Nat.not_le.mpr h16)]
  exact if_neg low

/-- R173 has sixteen edges in an interval. -/
theorem masterEdge_past (h16 : 16 ≤ s.stream.edges) : s.masterEdge b = s := if_pos h16

theorem slaveEdge_start (hb : s.stream.bits = []) : s.slaveEdge true b = s.setBits [b] := if_pos hb

/-- A word start within a word is a framing error (R172). -/
theorem slaveEdge_restart (hb : s.stream.bits ≠ []) : s.slaveEdge true b = s.frameError b :=
  if_neg hb

theorem slaveEdge_idle (hb : s.stream.bits = []) : s.slaveEdge false b = s := if_pos hb

theorem slaveEdge_further (hb : s.stream.bits ≠ []) : s.slaveEdge false b = s.addBit b := if_neg hb

/-- The word's last edge is looked at as any edge that is not a word start. -/
theorem exec_streamWordComplete_eq_edge (ho : s.stream.state ≠ .off)
    (hb : s.stream.bits.length = 15) :
    exec (.streamWordComplete b) s = exec (.sclkRisingEdge false b) s :=
  congrArg Host.Outcome.next ((if_pos ⟨ho, hb⟩).trans (if_neg ho).symm)

theorem exec_framingError (ho : s.stream.state ≠ .off) (hm : s.stream.master = false)
    (hb : s.stream.bits ≠ []) : exec (.framingError b) s = .next (s.frameError b) :=
  congrArg Host.Outcome.next (if_pos ⟨ho, hm, hb⟩)

end State

open State in
/-- Settles O29: what an edge finds by the mode, the word in progress and the edges of the interval. -/
theorem clockEdgesAssembleWords : Obligations.ClockEdgesAssembleWords := by
  refine ⟨fun f b s ho => congrArg Host.Outcome.next (if_pos ho), ?begun, ?further,
    fun s ho hm => StreamPort.sfrmOut_iff ho hm, ?first, ?later, ?past, ?last, ?framing⟩
  case begun =>
    intro b s ho hm hb
    constructor
    · rw [exec_sclkRisingEdge_slave ho hm, slaveEdge_start hb]
      rfl
    · rw [exec_sclkRisingEdge_slave ho hm, slaveEdge_idle hb]
  case further =>
    intro b s ho hm hb hl
    rw [exec_sclkRisingEdge_slave ho hm, slaveEdge_further hb, addBit_partial hl]
    rfl
  case first =>
    intro f b s ho hm he
    rw [exec_sclkRisingEdge_master ho hm, masterEdge_first ho hm he]
    rfl
  case later =>
    intro f b s ho hm h0 h16 hl
    rw [exec_sclkRisingEdge_master ho hm, masterEdge_later ho hm h0 h16, addBit_partial (by exact hl)]
    rfl
  case past =>
    intro f b s hm h16
    by_cases ho : s.stream.state = .off
    · exact congrArg Host.Outcome.next (if_pos ho)
    · rw [exec_sclkRisingEdge_master ho hm, masterEdge_past h16]
  case last =>
    intro f b s ho hb hf
    rw [exec_streamWordComplete_eq_edge ho hb]
    rcases hf with hm | rfl
    · rw [exec_sclkRisingEdge_master ho hm, exec_sclkRisingEdge_master ho hm]
    · rfl
  case framing =>
    intro b s ho hm hb
    constructor
    · rw [exec_framingError ho hm hb]
      rfl
    · rw [exec_framingError ho hm hb, exec_sclkRisingEdge_slave ho hm, slaveEdge_restart hb]

/-! ## Word intervals (R173, R174) -/

namespace StreamPort

variable {p : StreamPort}

theorem interval_short (h : p.acc + p.fraction < 16) :
    p.interval = { p with acc := p.acc + p.fraction, longInterval := false, edges := 0 } :=
  if_neg (Nat.not_le.mpr h)

theorem interval_long (h : 16 ≤ p.acc + p.fraction) :
    p.interval = { p with acc := p.acc + p.fraction - 16, longInterval := true, edges := 0 } :=
  if_pos h

/-- What an interval adds to the accumulator stays there, but for the 16 of a long one. -/
theorem interval_acc (ha : p.acc < 16) (hf : p.fraction < 16) :
    16 * p.interval.longInterval.toNat + p.interval.acc = p.acc + p.fraction ∧
      p.interval.acc < 16 ∧ p.interval.fraction = p.fraction := by
  rcases Nat.lt_or_ge (p.acc + p.fraction) 16 with short | long
  · rw [interval_short short]
    exact ⟨by simp, short, rfl⟩
  · rw [interval_long long]
    exact ⟨by simp only [Bool.toNat_true]; omega, by dsimp only; omega, rfl⟩

/-- The long intervals are the whole sixteenths in what the accumulator has been given. -/
theorem longIntervals_eq (k : Nat) (ha : p.acc < 16) (hf : p.fraction < 16) :
    p.longIntervals k = (p.acc + k * p.fraction) / 16 := by
  induction k generalizing p with
  | zero => rw [Nat.zero_mul, Nat.add_zero, Nat.div_eq_of_lt ha, longIntervals]
  | succ k ih =>
    obtain ⟨total, acc, fraction⟩ := interval_acc ha hf
    rw [longIntervals, ih acc (by rw [fraction]; exact hf), fraction, Nat.succ_mul]
    omega

end StreamPort

theorem State.exec_pacingIntervalStart {s : State} (ho : s.stream.state ≠ .off)
    (hm : s.stream.master = true) :
    exec .pacingIntervalStart s = .next (s.setStream s.stream.interval) :=
  congrArg Host.Outcome.next (if_pos ⟨ho, hm⟩)

open State in
/-- Settles O31: the interval by the accumulator's sum, and of sixteen intervals those that are long. -/
theorem pacingSpreadsTheFraction : Obligations.PacingSpreadsTheFraction := by
  refine ⟨?short, ?long, ?without, ?spread⟩
  case short =>
    intro s ho hm h
    rw [exec_pacingIntervalStart ho hm, StreamPort.interval_short h]
    rfl
  case long =>
    intro s ho hm h
    rw [exec_pacingIntervalStart ho hm, StreamPort.interval_long h]
    rfl
  case without =>
    intro s h
    have noInterval : ¬ (s.stream.state ≠ .off ∧ s.stream.master = true) := by
      rintro ⟨ho, hm⟩
      rcases h with off | slave
      · exact ho off
      · exact Bool.false_ne_true (slave.symm.trans hm)
    exact congrArg Host.Outcome.next (if_neg noInterval)
  case spread =>
    intro p ha hf
    rw [StreamPort.longIntervals_eq 16 ha hf]
    omega

/-! ## Settings (R168, R170, R173) -/

theorem StreamPort.clockDrive_eq (p : StreamPort) : p.clockDrive = if p.master = false then .input
    else if p.state = .off then .low else .pacing := by
  cases hm : p.master <;> simp [StreamPort.clockDrive, hm]

/-- A value is clamped where it lies outside the range. -/
theorem clampTo_differs {lo hi : Nat} (h : lo ≤ hi) (v : Nat) :
    (clampTo lo hi v != v) = decide (v < lo ∨ hi < v) := by
  rw [Bool.eq_iff_iff, bne_iff_ne, decide_eq_true_eq, clampTo]
  omega

theorem word16_eq (hi lo : Byte) : word16 hi lo = 256 * hi.toNat + lo.toNat := by
  rw [word16, Nat.mul_comm]

/-- The stream reserve stands in bits 1 to 3 of STRCTL. -/
theorem strctl_reserve (b : Byte) : (b.extractLsb' 1 3).toNat = b.toNat / 2 % 8 := by
  simp [BitVec.extractLsb'_toNat, Nat.shiftRight_eq_div_pow]

namespace State

variable {s : State}

theorem exec_strctlWrite (b : Byte) (s : State) : exec (.strctlWrite b) s =
    .next (s.touch.storeSetting
      (fun p => { p with master := b.getLsbD 0, reserve := min 3 (b.toNat / 2 % 8) })
      (decide (3 < b.toNat / 2 % 8))) := by
  rw [← strctl_reserve]
  rfl

theorem exec_strlenWrite (b : Byte) (s : State) : exec (.strlenWrite b) s =
    .next (s.touch.storeSetting
      (fun p => { p with strlen := clampTo 2 1024 (256 * b.toNat + s.host.holdStrlen.toNat) })
      (decide (256 * b.toNat + s.host.holdStrlen.toNat < 2 ∨
        1024 < 256 * b.toNat + s.host.holdStrlen.toNat))) := by
  rw [← clampTo_differs (by decide), ← word16_eq]
  rfl

theorem exec_paceDivisorWrite (b : Byte) (s : State) : exec (.paceDivisorWrite b) s =
    .next (s.touch.storeSetting
      (fun p => { p with divisor := clampTo 16 4095 (256 * b.toNat + s.host.holdPace.toNat) })
      (decide (256 * b.toNat + s.host.holdPace.toNat < 16 ∨
        4095 < 256 * b.toNat + s.host.holdPace.toNat))) := by
  rw [← clampTo_differs (by decide), ← word16_eq]
  rfl

theorem exec_paceFractionWrite (b : Byte) (s : State) : exec (.paceFractionWrite b) s =
    .next (s.touch.storeSetting (fun p => { p with fraction := min 15 b.toNat })
      (decide (15 < b.toNat))) := rfl

/-- A setting written in OFF is stored and answered ACCEPTED, CLAMPED telling where it was clamped. -/
theorem storeSetting_off (f : StreamPort → StreamPort) (c : Bool) (ho : s.stream.state = .off) :
    s.touch.storeSetting f c = { s with
      stream := f s.stream
      host := (s.host.stuck c .clamped).answered .accepted } := by
  rw [storeSetting, if_pos (by exact ho), stickIf_eq]
  cases c <;> rfl

/-- A setting written while the port is on is refused. -/
theorem storeSetting_on (f : StreamPort → StreamPort) (c : Bool) (ho : s.stream.state ≠ .off) :
    s.touch.storeSetting f c = { s with host := s.host.answered .portBusy } :=
  if_neg ho

end State

open State in
/-- Settles O26: each setting as its bytes give it, stored in OFF, and PORT_BUSY while the port is on. -/
theorem streamSettingWrites : Obligations.StreamSettingWrites := by
  refine ⟨StreamPort.clockDrive_eq, fun b s ho => ?strctl, fun b s ho => ?strlen,
    fun b s ho => ?divisor, fun b s ho => ?fraction, fun b s ho => ?busy⟩
  case strctl => rw [exec_strctlWrite, storeSetting_off _ _ ho]
  case strlen => rw [exec_strlenWrite, storeSetting_off _ _ ho, clampTo]
  case divisor => rw [exec_paceDivisorWrite, storeSetting_off _ _ ho, clampTo]
  case fraction => rw [exec_paceFractionWrite, storeSetting_off _ _ ho]
  case busy =>
    rw [exec_strctlWrite, exec_strlenWrite, exec_paceDivisorWrite, exec_paceFractionWrite]
    simp only [storeSetting_on _ _ ho, and_self]

end Sys2Proof.Machine
end

section
/-! SUPPORT. What every command keeps, the soft reset block by block, and the event flags with the interrupt
line (R44, R74, R95, R115, R133, R166, R181 to R185, R191 to R194). -/

namespace Sys2Proof.Machine

/-! ## The queue of waiting commands (R182) -/

/-- No change that a command can make is one of the queue. -/
theorem Changes.keeps_pending {a s : State} (h : Changes a s) : s.pending = a.pending := by
  induction h with
  | refl => rfl
  | _ => assumption

/-- Settles O2: every command completes by changes of the listed kinds, and none of them is a change of
the queue. -/
theorem everyCommandCompletes : Obligations.EveryCommandCompletes := by
  intro c s
  obtain ⟨t, next, changes⟩ := exec_changes c s
  exact ⟨t, next, changes.keeps_pending⟩

/-! ## The soft reset (R193) -/

/-- The motion state after a soft reset: that after a STOP, but for FAULT, which is left (R166). -/
def Transport.motionAfterReset (x : Transport) : Motion :=
  if x.motion = .fault then if x.levels.ready then .stopped else .notReady else x.motion.afterStop

namespace State

/-- With the write channel idle, its gates are off, and a motion entered changes the transport alone. -/
theorem enterMotion_channelIdle (m : Motion) (d : Dir) (fast : Bool) (s : State) :
    s.channelIdle.enterMotion m d fast =
      s.channelIdle.setXp (s.channelIdle.enterMotion m d fast).xp := by
  unfold enterMotion
  split <;> rfl

theorem softMotion_channelIdle (s : State) :
    s.channelIdle.softMotion = s.channelIdle.setXp s.channelIdle.softMotion.xp := by
  unfold softMotion
  split
  case h_4 | h_5 => exact enterMotion_channelIdle _ _ _ s
  all_goals rfl

/-- Of the transport, a soft reset changes the motion, FAST and the ramp timer, and what it drops (R166). -/
theorem softMotion_xp (s : State) : ∃ fast ramp, s.softMotion.xp.dropRequests =
    { s.xp.dropRequests with motion := s.xp.motionAfterReset, fast := fast, rampTimer := ramp } := by
  have entered (m : Motion) : (s.enterMotion m s.xp.dir false).xp.dropRequests =
      { s.xp.dropRequests with motion := m, fast := false, rampTimer := none } := by
    rw [enterMotion_xp]
    rfl
  have stops : s.stopMotion.xp.dropRequests = { s.xp.dropRequests with
      motion := .stopping, fast := s.xp.fastLine, rampTimer := some s.xp.timing.stopRamp } := by
    rw [stopMotion_xp]
    rfl
  have stays {m : Motion} (hm : s.xp.motion = m) : s.xp.dropRequests = { s.xp.dropRequests with
      motion := m, fast := s.xp.fast, rampTimer := s.xp.rampTimer } := by
    rw [← hm]
    rfl
  unfold softMotion Transport.motionAfterReset
  cases hm : s.xp.motion
  case starting | running | rewinding => exact ⟨_, _, stops⟩
  case unloading | fault => exact ⟨_, _, entered _⟩
  case stopping | stopped | notReady | noCartridge => exact ⟨_, _, stays hm⟩

/-- SOFT_RESET, block by block. -/
theorem exec_softReset (s : State) : ∃ fast ramp, exec .softReset s = .next { s with
    host := s.host.softReset
    pool := s.pool.softReset
    seq := s.seq.softReset
    wch := .reset
    rch := .reset s.rch.framePeriod
    capture := none
    xp := { s.xp.dropRequests with
      motion := s.xp.motionAfterReset, fast := fast, rampTimer := ramp }
    stream := s.stream.softReset } := by
  obtain ⟨fast, ramp, xp⟩ := s.touch.channelIdle.softMotion_xp
  refine ⟨fast, ramp, congrArg Host.Outcome.next ?_⟩
  rw [softReset, softMotion_channelIdle, resetTransport, setXp_xp, xp]
  rfl

end State

theorem HostPort.softReset_slotLatch (h : HostPort) (i : Fin 24) :
    h.softReset.slotLatch[i].loaded = false := by
  simp [HostPort.softReset, Latch.forget]

theorem Pool.softReset_get (p : Pool) (n : SlotNo) : p.softReset.get n = .free := by
  simp [Pool.softReset, Pool.reset, Pool.get]

theorem StreamPort.softReset_clockDrive (p : StreamPort) :
    p.softReset.clockDrive = if p.master then .low else .input := by
  rw [StreamPort.clockDrive_eq]
  change (if p.master = false then _ else _) = _
  cases p.master <;> rfl

/-- Settles O4: each block of `State.exec_softReset` as its own reset leaves it. -/
theorem softResetActsOnEveryBlock : Obligations.SoftResetActsOnEveryBlock := by
  intro s
  obtain ⟨fast, ramp, next⟩ := s.exec_softReset
  refine ⟨_, next, rfl, rfl, rfl, rfl, rfl, rfl, rfl, rfl, rfl, rfl, rfl, rfl, rfl, rfl, rfl, rfl, rfl,
    rfl, rfl, rfl, rfl, rfl, rfl, rfl, rfl, rfl, rfl, rfl, rfl, rfl, rfl, rfl, rfl, rfl, rfl, ?_,
    s.pool.softReset_get, rfl, rfl, rfl, rfl, rfl, rfl, rfl, rfl, rfl, rfl, rfl, rfl, rfl, rfl, rfl, rfl,
    s.stream.softReset_clockDrive, rfl, rfl, rfl, rfl, rfl, rfl, rfl, rfl, rfl, rfl, rfl, rfl, rfl, rfl,
    rfl, rfl, rfl, rfl, s.host.softReset_slotLatch, rfl, rfl, rfl, rfl⟩
  show s.xp.motionAfterReset = _
  unfold Transport.motionAfterReset
  cases s.xp.motion <;> rfl

/-! ## The event flags and the interrupt line (R191, R192) -/

/-- The low byte of EVENTS or EVMASK has the places 0 to 7, and the high byte place 8. -/
theorem eventBits_getLsbD (hi : Bool) (b : Byte) {i : Nat} (h : i < 9) : (eventBits hi b).getLsbD i =
    if hi then decide (i = 8) && b.getLsbD 0 else decide (i < 8) && b.getLsbD i := by
  cases hi
  case false =>
    refine BitVec.getLsbD_append.trans ?_
    by_cases low : i < 8 <;> simp [low]
  case true =>
    refine BitVec.getLsbD_append.trans ?_
    rcases Nat.lt_succ_iff_lt_or_eq.mp h with low | rfl
    · simp [low, Nat.ne_of_lt low]
    · simp

theorem eventPlaces_getLsbD (hi : Bool) {i : Nat} (h : i < 9) :
    (eventPlaces hi).getLsbD i = if hi then decide (i = 8) else decide (i < 8) := by
  rw [eventPlaces, eventBits_getLsbD hi _ h]
  interval_cases i <;> rfl

/-- EVMASK as the write of a byte stores it (R192). -/
def evmaskStored (hi : Bool) (b : Byte) (v : BitVec 9) : BitVec 9 :=
  (v &&& ~~~ eventPlaces hi) ||| eventBits hi b

/-- The places of the byte written take its bits, and the others keep theirs. -/
theorem evmaskStored_getLsbD (hi : Bool) (b : Byte) (v : BitVec 9) {i : Nat} (h : i < 9) :
    (evmaskStored hi b v).getLsbD i =
      if hi then (if i = 8 then b.getLsbD 0 else v.getLsbD i)
      else if i < 8 then b.getLsbD i else v.getLsbD i := by
  simp only [evmaskStored, BitVec.getLsbD_or, BitVec.getLsbD_and, BitVec.getLsbD_not,
    eventPlaces_getLsbD hi h, eventBits_getLsbD hi b h, h, decide_true, Bool.true_and]
  cases hi
  case false => by_cases low : i < 8 <;> simp [low]
  case true => by_cases high : i = 8 <;> simp [high]

theorem evmaskStored_low (hi : Bool) (b : Byte) (v : BitVec 9) {i : Nat} (h : i < 8) :
    (evmaskStored hi b v).getLsbD i = if hi then v.getLsbD i else b.getLsbD i := by
  rw [evmaskStored_getLsbD hi b v (by omega), if_neg (Nat.ne_of_lt h), if_pos h]

theorem evmaskStored_high (hi : Bool) (b : Byte) (v : BitVec 9) :
    (evmaskStored hi b v).getLsbD 8 = if hi then b.getLsbD 0 else v.getLsbD 8 :=
  evmaskStored_getLsbD hi b v (by decide)

/-- The low byte of EVMASK reads as it was stored. -/
theorem evmaskStored_readLow (b : Byte) (v : BitVec 9) : (evmaskStored false b v).setWidth 8 = b := by
  refine BitVec.eq_of_getLsbD_eq fun i h => ?_
  rw [BitVec.getLsbD_setWidth, evmaskStored_low false b v h]
  simp [h]

/-- The high byte of EVMASK reads as its one bit was stored. -/
theorem evmaskStored_readHigh (b : Byte) (v : BitVec 9) :
    (if (evmaskStored true b v).getLsbD 8 then (1 : Byte) else 0) = b &&& 1 := by
  rw [evmaskStored_high, if_pos rfl]
  clear v
  revert b
  decide

/-- IRQN is asserted exactly while a flag is set and enabled. -/
theorem irqAsserted_iff (s : State) : s.irqAsserted = true ↔
    ∃ i, i < 9 ∧ s.host.events.getLsbD i = true ∧ s.host.evmask.getLsbD i = true := by
  rw [State.irqAsserted, bne_iff_ne, ← not_iff_not, not_not]
  constructor
  · rintro h ⟨i, -, event, mask⟩
    simpa [event, mask] using congrArg (BitVec.getLsbD · i) h
  · intro apart
    refine BitVec.eq_of_getLsbD_eq fun i h => (Bool.eq_false_iff.mpr fun common => apart ?_).trans
      BitVec.getLsbD_zero.symm
    rw [BitVec.getLsbD_and, Bool.and_eq_true] at common
    exact ⟨i, h, common⟩

/-- IRQN is released while no flag is set. -/
theorem irqAsserted_noEvents {s : State} (h : s.host.events = 0) : s.irqAsserted = false := by
  simp [State.irqAsserted, h]

theorem State.exec_evmaskWrite (hi : Bool) (b : Byte) (s : State) : exec (.evmaskWrite hi b) s =
    .next { s with host := { s.host.accessed with evmask := evmaskStored hi b s.host.evmask } } := rfl

theorem State.exec_evmaskReadLow (s : State) : exec (.otherRegisterRead 0x1A) s =
    .next { s with host := s.host.drove (s.host.evmask.setWidth 8) } :=
  State.exec_otherRegisterRead (by simp [State.registerBytes])

theorem State.exec_evmaskReadHigh (s : State) : exec (.otherRegisterRead 0x1B) s =
    .next { s with host := s.host.drove (if s.host.evmask.getLsbD 8 then 1 else 0) } :=
  State.exec_otherRegisterRead (by simp [State.registerBytes])

/-- Settles O6: the flags by their places, the byte of EVMASK read back, and IRQN after both resets. -/
theorem eventFlagsAndInterruptLine : Obligations.EventFlagsAndInterruptLine := by
  refine ⟨fun hi b s => rfl, fun hi b s => ⟨_, s.exec_evmaskWrite hi b, rfl,
    fun i h => evmaskStored_low hi b _ h, evmaskStored_high hi b _, ?readBack⟩, irqAsserted_iff, rfl,
    fun lv s => ⟨_, rfl, rfl, irqAsserted_noEvents rfl⟩, fun s => ?softReset⟩
  case readBack =>
    cases hi
    case false => exact ⟨_, State.exec_evmaskReadLow _, evmaskStored_readLow b _⟩
    case true => exact ⟨_, State.exec_evmaskReadHigh _, evmaskStored_readHigh b _⟩
  case softReset =>
    obtain ⟨_, _, next⟩ := s.exec_softReset
    exact ⟨_, next, rfl, irqAsserted_noEvents rfl⟩

end Sys2Proof.Machine
end

section
/-! SUPPORT. The step as its two equations: a command at the front of the queue, and an empty queue (log
entry 4). -/

namespace Sys2Proof.Machine

theorem step_of_pending_cons {c : Instr} {rest : List Instr} {s : State}
    (h : s.pending = c :: rest) :
    step s = exec c { s with pending := rest } := by
  rw [step, h]

theorem step_of_pending_nil {s : State} (h : s.pending = []) : step s = .next s := by
  rw [step, h]

/-- Settles O1: the step's match on the queue has these two arms. -/
theorem stepPerformsFrontCommand : Obligations.StepPerformsFrontCommand :=
  ⟨fun _ _ _ front => step_of_pending_cons front, fun _ empty => step_of_pending_nil empty⟩

end Sys2Proof.Machine
end
